-- ==== Sys2Proof/Word.lean ====
section
/-! DEFINITION. The two word types of the core: a byte and a 16-bit word or address (00_scope.md R10, R12). -/

namespace Sys2Proof

/-- A register, a status value or a memory cell: an integer from 0 to 255 (00_scope.md R12). -/
abbrev Byte := BitVec 8

/-- PC or a memory address: an integer from 0 to 65535 (00_scope.md R12). -/
abbrev Word := BitVec 16

end Sys2Proof
end

