-- ==== Sys2Proof/Machine/Bits.lean ====
section
/-! DEFINITION. Byte order, zero and sign extension (00_scope.md R12, R14; 20_memory.md R55; 47_branch.md R200). -/

namespace Sys2Proof.Machine

/-- `lo(w)`, bits 7 to 0 of a word (00_scope.md R12). -/
def lowByte (w : Word) : Byte := w.setWidth 8

/-- `hi(w)`, bits 15 to 8 of a word (00_scope.md R12). -/
def highByte (w : Word) : Byte := (w >>> 8).setWidth 8

/-- `(h, l)` as the word `h * 256 + l` (00_scope.md R12). -/
def wordOf (h l : Byte) : Word := h ++ l

/-- `zext_16(b)`, the byte as a word with high byte zero (00_scope.md R14). -/
def zeroExtend (b : Byte) : Word := b.setWidth 16

/-- `sext_8(b)` as a 16-bit two's-complement word: b when b < 128, else b - 256 (47_branch.md R200). -/
def signExtend (b : Byte) : Word := b.signExtend 16

end Sys2Proof.Machine
end

