-- ==== Sys2Proof/Config.lean ====
section
/-! DEFINITION. The parameters the spec leaves open (00_scope.md R11). Their default values stand in
Sys2Proof/Machine/Parameters.lean. The spec leaves no result of any instruction undefined, so there is no
free value here. -/

namespace Sys2Proof

/-- The three parameters of 00_scope.md R11 that the step function reads. `RESET_SP` and `RESET_PC` are
arguments of `Machine.State.create`, and the ceiling is an argument of `Machine.run`. -/
structure Params where
  /-- `OPSET`, kept as the opcode bytes the dispatcher does NOT implement: a byte is in `OPSET` when it is one
  of the 151 defined bytes of 30_encoding.md R90 and is not listed here (D2; DESIGN CHOICE of form, log entry 2). -/
  opsetOmits : List Byte
  /-- `JMP_IND_PAGE_WRAP`: whether JMP indirect takes its pointer's high byte from the same 256-byte page
  (40_addressing.md R133, D11). -/
  jmpIndPageWrap : Bool
  /-- `PHP_PUSH_OR`, which is 0x10 when true and 0x00 when false: the only two values the spec allows
  (00_scope.md R11, D12). -/
  phpPushesBreak : Bool
deriving DecidableEq, Repr

/-- Whether the dispatcher leaves this opcode byte out of `OPSET` (30_encoding.md R87, R92). -/
def Params.omits (c : Params) (op : Byte) : Bool :=
  c.opsetOmits.contains op

end Sys2Proof
end

