-- ==== Sys2Proof/Machine/Parameters.lean ====
section
/-! DEFINITION. The default of every parameter of 00_scope.md R11, and the value the model names for the one
parameter that has none. -/

namespace Sys2Proof.Machine

/-- The spec's defaults: `OPSET` all 151 bytes (D2), `JMP_IND_PAGE_WRAP` false (D11), `PHP_PUSH_OR` 0x00 (D12).
DESIGN CHOICE, log entries 2, 3 and 4. -/
def standardParams : Params where
  opsetOmits := []
  jmpIndPageWrap := false
  phpPushesBreak := false

/-- `RESET_SP`, default 0xFF (00_scope.md R11, 10_state.md R40, D5). DESIGN CHOICE, log entry 6. -/
def standardResetSp : Byte := 0xFF#8

/-- The value this model names for `RESET_PC`, which the spec leaves open without a default (10_state.md R40,
D6): the host sets PC before the first Run. DESIGN CHOICE, unsafe, log entry 5. -/
def namedResetPc : Word := 0x0000#16

end Sys2Proof.Machine
end

