-- ==== Sys2Proof/Machine/State.lean ====
section
/-! DEFINITION. The state of the core as plain data, the outcomes of a step, and the state after reset
(10_state.md; 70_reset_and_hazards.md R300). -/

namespace Sys2Proof.Machine

/-- The memory M of 10_state.md R32 in canonical form: the cells that differ from 0x00, by strictly rising
address below 65536. Its operations and its canonical form `Memory.wf` stand in Machine/Memory.lean. -/
abbrev Memory := List Host.Cell

/-- The complete state of the core, "the tuple (A, X, Y, SP, PC, P, M, Halted, Cycles)" (10_state.md, opening;
R36: nothing else is state), and beside it the constant parameters (log entry 1). -/
@[ext]
structure State where
  /-- A, 8 bits (10_state.md R20). -/
  a : Byte
  /-- X, 8 bits (10_state.md R20). -/
  x : Byte
  /-- Y, 8 bits (10_state.md R20). -/
  y : Byte
  /-- SP, 8 bits: the low byte of the address of the next free stack cell (10_state.md R22). -/
  sp : Byte
  /-- PC, 16 bits (10_state.md R23). -/
  pc : Word
  /-- P, the status register: C Z I D B 1 V N from bit 0 to bit 7 (10_state.md R25). -/
  p : Byte
  /-- M, 65536 bytes (10_state.md R32). -/
  mem : Memory
  /-- Halted, set by BRK, cleared by the host (10_state.md R30). -/
  halted : Bool
  /-- Cycles, the count of executed instructions, without bound (10_state.md R31; D15, log entry 19). -/
  cycles : Nat
  /-- The parameters of 00_scope.md R11 that the step function reads; no step changes them (10_state.md R38;
  DESIGN CHOICE of place, log entry 1). -/
  params : Params
deriving DecidableEq, Repr

/-- The core raises no exception and no fault: "A model's step function therefore has one outcome only, the next
state; it needs no fault outcome for the core itself" (60_exceptions.md R278). No one raises a `Fault`, so it has
no constructor (log entry 14). -/
inductive Fault where
deriving DecidableEq, Repr

/-- Why a request gets no meaning. No step and no instruction raises any of these. -/
inductive Refusal where
  /-- An instruction that has no meaning yet; no arm of `exec` answers it. Safe. -/
  | notModelled (mnemonic : String)
  /-- Raised by the host transaction `hostLoad` alone: a Load whose origin is outside 0 to 65535 or that would pass
  0xFFFF (70_reset_and_hazards.md R311). Safe: the spec refuses it. -/
  | loadOutsideMemory
  /-- Raised by the host transaction `hostSetPc` alone: a SetPC outside 0 to 65535 (70_reset_and_hazards.md R311).
  Safe: the spec refuses it. -/
  | setPcOutsideMemory
deriving DecidableEq, Repr

/-- What a meaning, a step or a host transaction answers. -/
abbrev Result := Host.Outcome State Fault Refusal

/-- Reset is the creation of the state (70_reset_and_hazards.md R300), with the values of 10_state.md R40:
memory all 0x00 and bit 5 of P set by the source; A, X, Y, the seven flags, Halted and Cycles zero by D4, D7 and
D8 (log entry 7); SP and PC the parameters `RESET_SP` and `RESET_PC`. -/
def State.create (resetSp : Byte) (resetPc : Word) (params : Params) : State where
  a := 0x00#8
  x := 0x00#8
  y := 0x00#8
  sp := resetSp
  pc := resetPc
  p := 0x20#8
  mem := []
  halted := false
  cycles := 0
  params := params

/-- The machine right after reset, with the spec's default parameters (10_state.md R40). PC is the value log
entry 5 names. -/
def State.reset : State :=
  State.create standardResetSp namedResetPc standardParams

end Sys2Proof.Machine
end

