-- ==== Sys2Proof/Machine/Memory.lean ====
section
/-! DEFINITION. Reading and writing one cell of M, and the canonical form of its list (10_state.md R32;
20_memory.md R50, R60, R64; log entry 25). -/

namespace Sys2Proof.Machine

/-- What a cell that nothing has written reads as: memory is "zero-initialized" (10_state.md R32, 20_memory.md R64). -/
def unlistedByte : Byte := 0x00#8

/-- The byte at an address. -/
def Memory.read : Memory → Nat → Byte
  | [], _ => unlistedByte
  | (k, v) :: rest, a => if k = a then v else Memory.read rest a

/-- Enter a byte at its place in the rising order of addresses, in place of the byte listed there. -/
def Memory.insert : Memory → Nat → Byte → Memory
  | [], a, v => [(a, v)]
  | (k, w) :: rest, a, v =>
    if a < k then (a, v) :: (k, w) :: rest
    else if a = k then (a, v) :: rest
    else (k, w) :: Memory.insert rest a v

/-- Take an address out of the list. -/
def Memory.erase (m : Memory) (a : Nat) : Memory :=
  m.filter fun c => c.1 != a

/-- Write a byte: a write changes exactly one cell (20_memory.md R60). Writing what an unlisted address reads as
takes the entry out, which keeps the list canonical. -/
def Memory.write (m : Memory) (a : Nat) (v : Byte) : Memory :=
  if v = unlistedByte then Memory.erase m a else Memory.insert m a v

/-- The list's addresses rise strictly and start at `lowest` or above, lie below 65536, and list no byte that an unlisted address
reads as. -/
def Memory.canonicalFrom : Nat → Memory → Bool
  | _, [] => true
  | lowest, (k, v) :: rest =>
    decide (lowest ≤ k) && decide (k < 65536) && (v != unlistedByte) && Memory.canonicalFrom (k + 1) rest

/-- The canonical form: memories that read alike are then equal lists (Laws/Memory.lean). -/
def Memory.wf (m : Memory) : Bool :=
  Memory.canonicalFrom 0 m

end Sys2Proof.Machine
end

