-- ==== Sys2Proof/Machine/Ops.lean ====
section
/-! DEFINITION. The named operations on registers, memory and the stack that every meaning shares. There is no
operation that takes an exception, because the core raises none (60_exceptions.md R278, R284); the stopping action
is `State.halt`, and the return `pullStatus` followed by `pullWord` serves RTI (48_jump_call_return.md R219). -/

namespace Sys2Proof.Machine

/-! Register writes: a write replaces all bits (10_state.md R20). -/

def State.setA (s : State) (v : Byte) : State := { s with a := v }
def State.setX (s : State) (v : Byte) : State := { s with x := v }
def State.setY (s : State) (v : Byte) : State := { s with y := v }
def State.setSp (s : State) (v : Byte) : State := { s with sp := v }
def State.setPc (s : State) (v : Word) : State := { s with pc := v }
def State.setP (s : State) (v : Byte) : State := { s with p := v }
def State.setMem (s : State) (m : Memory) : State := { s with mem := m }

/-- `Halted <- 1`, the only stopping action (00_scope.md R14, 49_stack_transfer_flag_system.md R260). -/
def State.halt (s : State) : State := { s with halted := true }

/-- `Halted <- 0`, which only the host does (10_state.md R30, 70_reset_and_hazards.md R313). -/
def State.clearHalted (s : State) : State := { s with halted := false }

/-- `Cycles <- 0`, which only the host does (10_state.md R31, 70_reset_and_hazards.md R313). -/
def State.clearCycles (s : State) : State := { s with cycles := 0 }

/-- `Cycles <- Cycles + 1` (60_exceptions.md R270). -/
def State.countCycle (s : State) : State := { s with cycles := s.cycles + 1 }

/-- `MemRead(addr, 1)`: the byte at a 16-bit address; it changes no state and never fails (20_memory.md R52). -/
def State.memRead (s : State) (addr : Word) : Byte :=
  s.mem.read addr.toNat

/-- `MemWrite(addr, 1, v)`: sets one cell and changes nothing else (20_memory.md R53). -/
def State.memWrite (s : State) (addr : Word) (v : Byte) : State :=
  s.setMem (s.mem.write addr.toNat v)

/-- The stack cell SP names, `0x0100 + SP` (10_state.md R22). -/
def stackAddress (sp : Byte) : Word := wordOf 0x01#8 sp

/-- `Push8(v)`: write at `0x0100 + SP`, then SP <- (SP - 1) mod 256 (10_state.md R33, R35). -/
def push8 (v : Byte) (s : State) : State :=
  let written := s.memWrite (stackAddress s.sp) v
  written.setSp (written.sp - 1#8)

/-- `Pull8()`: SP <- (SP + 1) mod 256, then read `0x0100 + SP`; the cell is not changed (10_state.md R34, R35). -/
def pull8 (s : State) : Byte × State :=
  let raised := s.setSp (s.sp + 1#8)
  (raised.memRead (stackAddress raised.sp), raised)

/-- Push a word, high byte first, so that it lies little-endian in memory (48_jump_call_return.md R217,
20_memory.md R55). -/
def pushWord (w : Word) (s : State) : State :=
  push8 (lowByte w) (push8 (highByte w) s)

/-- Pull a word, low byte first (48_jump_call_return.md R218, R219). -/
def pullWord (s : State) : Word × State :=
  let low := pull8 s
  let high := pull8 low.2
  (wordOf high.1 low.1, high.2)

/-- `Fetch8()`: the byte at PC, then PC <- (PC + 1) mod 65536 (30_encoding.md R83). -/
def fetch8 (s : State) : Byte × State :=
  (s.memRead s.pc, s.setPc (s.pc + 1#16))

/-- `Fetch16()`: two `Fetch8()`, low byte first (30_encoding.md R84). -/
def fetch16 (s : State) : Word × State :=
  let low := fetch8 s
  let high := fetch8 low.2
  (wordOf high.1 low.1, high.2)

end Sys2Proof.Machine
end

