-- ==== Sys2Proof/Machine/Flags.lean ====
section
/-! DEFINITION. The status register's flags and every flag computation the spec gives (10_state.md R25 to R29;
42_arithmetic.md R150, R151; 46_compare_bit.md R193, R197). -/

namespace Sys2Proof.Machine

/-- The seven flags of P (10_state.md R25). Bit 5 is no flag: it is 1 always (R26). -/
inductive Flag where
  | carry
  | zero
  | interruptDisable
  | decimal
  | brk
  | overflow
  | negative
deriving DecidableEq, Repr

/-- The mask of each flag (10_state.md R25). -/
def Flag.mask : Flag → Byte
  | .carry => 0x01#8
  | .zero => 0x02#8
  | .interruptDisable => 0x04#8
  | .decimal => 0x08#8
  | .brk => 0x10#8
  | .overflow => 0x40#8
  | .negative => 0x80#8

/-- The mask of bit 5 of P, which is "unused and always set" (10_state.md R25, R26). -/
def unusedMask : Byte := 0x20#8

/-- The value of a flag. -/
def State.flag (s : State) (f : Flag) : Bool :=
  (s.p &&& f.mask) != 0x00#8

/-- Assign one flag: a boolean is stored as 1 for true and 0 for false (00_scope.md R12); no other bit of P changes. -/
def State.setFlag (s : State) (f : Flag) (b : Bool) : State :=
  s.setP (if b then s.p ||| f.mask else s.p &&& ~~~f.mask)

/-- `SetZN(v)`: Z is whether the byte is 0, N is its bit 7 (10_state.md R27). -/
def State.setZN (s : State) (v : Byte) : State :=
  (s.setFlag .zero (v == 0x00#8)).setFlag .negative v.msb

/-- Load all of P from a pulled byte with bit 5 forced to 1 (48_jump_call_return.md R219;
49_stack_transfer_flag_system.md R233; 10_state.md R26; D13, log entry 17). -/
def State.loadStatus (s : State) (pulled : Byte) : State :=
  s.setP (pulled ||| unusedMask)

/-- The byte ORed into what PHP pushes, `PHP_PUSH_OR` (49_stack_transfer_flag_system.md R231; D12). -/
def phpPushOr (c : Params) : Byte :=
  if c.phpPushesBreak then 0x10#8 else 0x00#8

/-- The carry as a number, 0 or 1. -/
def State.carryIn (s : State) : Nat := (s.flag .carry).toNat

/-- ADC's overflow test: the sign bits of A and the operand agree and the result's differs from them
(42_arithmetic.md R150). -/
def adcOverflow (a o t : Byte) : Bool :=
  (~~~(a ^^^ o) &&& (a ^^^ t) &&& 0x80#8) != 0x00#8

/-- SBC's overflow test: the sign bits of A and the operand differ and the result's differs from A's
(42_arithmetic.md R151). -/
def sbcOverflow (a o t : Byte) : Bool :=
  ((a ^^^ o) &&& (a ^^^ t) &&& 0x80#8) != 0x00#8

/-- `Compare(reg, o)`: C is `reg >= o` as unsigned bytes, then SetZN of the difference modulo 256
(46_compare_bit.md R197). -/
def State.compare (s : State) (reg o : Byte) : State :=
  (s.setFlag .carry (decide (o.toNat ≤ reg.toNat))).setZN (reg - o)

/-- BIT's flags: Z from `A & m`, N from bit 7 of m, V from bit 6 of m (46_compare_bit.md R193). -/
def State.bitTest (s : State) (m : Byte) : State :=
  ((s.setFlag .zero ((s.a &&& m) == 0x00#8)).setFlag .negative (m.getLsbD 7)).setFlag .overflow (m.getLsbD 6)

end Sys2Proof.Machine
end

