-- ==== Sys2Proof/Machine/Operands.lean ====
section
/-! DEFINITION. The addressing-mode resolver: effective addresses, operands, and the place a read-modify-write
instruction works on (40_addressing.md R120 to R137; 44_shift_rotate.md R176). The operand bytes themselves are
already in the instruction (log entry 10). -/

namespace Sys2Proof.Machine

/-- An operand in memory: one of the eight modes that have a data address, with its operand byte or word
(40_addressing.md R121). -/
inductive MemOperand where
  | zeroPage (b1 : Byte)
  | zeroPageX (b1 : Byte)
  | zeroPageY (b1 : Byte)
  | absolute (base : Word)
  | absoluteX (base : Word)
  | absoluteY (base : Word)
  | indirectX (b1 : Byte)
  | indirectY (b1 : Byte)
deriving DecidableEq, Repr

/-- The operand of an instruction that reads one: Immediate, Accumulator or in memory (40_addressing.md R122). -/
inductive Operand where
  | immediate (v : Byte)
  | accumulator
  | memory (m : MemOperand)
deriving DecidableEq, Repr

/-- A 16-bit pointer in page zero: low byte at `p`, high byte at `(p + 1) mod 256` (40_addressing.md R131, R132;
20_memory.md R55; D10, D20, log entry 15). -/
def State.zeroPagePointer (s : State) (p : Byte) : Word :=
  wordOf (s.memRead (zeroExtend (p + 1#8))) (s.memRead (zeroExtend p))

/-- `EA(mode)` (40_addressing.md R121): zero-page sums wrap modulo 256 (R126, R127, R131), the 16-bit sums modulo
65536 (R129, R130, R132; D9, log entry 15). -/
def State.effectiveAddress (s : State) : MemOperand → Word
  | .zeroPage b1 => zeroExtend b1
  | .zeroPageX b1 => zeroExtend (b1 + s.x)
  | .zeroPageY b1 => zeroExtend (b1 + s.y)
  | .absolute base => base
  | .absoluteX base => base + zeroExtend s.x
  | .absoluteY base => base + zeroExtend s.y
  | .indirectX b1 => s.zeroPagePointer (b1 + s.x)
  | .indirectY b1 => s.zeroPagePointer b1 + zeroExtend s.y

/-- `Operand(mode)` (40_addressing.md R122). -/
def State.operand (s : State) : Operand → Byte
  | .immediate v => v
  | .accumulator => s.a
  | .memory m => s.memRead (s.effectiveAddress m)

/-- The address JMP Indirect takes its target's high byte from (40_addressing.md R133, 48_jump_call_return.md R216;
D11, log entry 3). -/
def pointerHighAddress (c : Params) (q : Word) : Word :=
  if c.jmpIndPageWrap then (q &&& 0xFF00#16) ||| ((q + 1#16) &&& 0x00FF#16) else q + 1#16

/-- The target of JMP Indirect, read through the pointer at `q`, low byte first (40_addressing.md R133). -/
def State.indirectTarget (s : State) (q : Word) : Word :=
  wordOf (s.memRead (pointerHighAddress s.params q)) (s.memRead q)

/-- The place a shift or rotate reads and writes (44_shift_rotate.md R176). -/
inductive Target where
  | accumulator
  | memory (m : MemOperand)
deriving DecidableEq, Repr

/-- `ReadTarget` (44_shift_rotate.md R176). -/
def State.readTarget (s : State) : Target → Byte
  | .accumulator => s.a
  | .memory m => s.memRead (s.effectiveAddress m)

/-- `WriteTarget` (44_shift_rotate.md R176): `s` is the state the address was computed in, so read and write use
the same address (40_addressing.md R121). -/
def State.writeTarget (s : State) (t : Target) (v : Byte) : State :=
  match t with
  | .accumulator => s.setA v
  | .memory m => s.memWrite (s.effectiveAddress m) v

end Sys2Proof.Machine
end

