-- ==== Sys2Proof/Syntax.lean ====
section
/-! DEFINITION. The instructions: one constructor of `Instr` for each row of spec/opcode_table.json
(30_encoding.md R88 to R92), and the names of the mnemonics and addressing modes. A constructor's argument is the
row's operand: a byte for the two-byte format, a word for the three-byte format (30_encoding.md R81, R85). -/

namespace Sys2Proof

/-- The 56 mnemonics (30_encoding.md R88). -/
inductive Mnemonic where
  | lda | ldx | ldy | sta | stx | sty | adc | sbc
  | and | ora | eor | asl | lsr | rol | ror | inc
  | dec | inx | iny | dex | dey | cmp | cpx | cpy
  | bit | bpl | bmi | bvc | bvs | bcc | bcs | bne
  | beq | jmp | jsr | rts | rti | pha | php | pla
  | plp | tax | txa | tay | tya | tsx | txs | clc
  | sec | cli | sei | clv | cld | sed | nop | brk
deriving DecidableEq, Repr

/-- The thirteen addressing modes (30_encoding.md R82; C3). -/
inductive Mode where
  | implied | accumulator | immediate | zeroPage | zeroPageX | zeroPageY
  | absolute | absoluteX | absoluteY | indirectX | indirectY | indirect | relative
deriving DecidableEq, Repr

/-- One constructor per row of spec/opcode_table.json. A name is the mnemonic and the mode's short code of
30_encoding.md R81; the 105 undefined bytes of R92 are `undef` and the byte. -/
inductive Instr where
  /- LDA: 41_load_store.md R140 -/
  | ldaImm (v : Byte)
  | ldaZp (zp : Byte)
  | ldaZpx (zp : Byte)
  | ldaAbs (addr : Word)
  | ldaAbx (base : Word)
  | ldaAby (base : Word)
  | ldaIzx (ptr : Byte)
  | ldaIzy (ptr : Byte)
  /- LDX: 41_load_store.md R141 -/
  | ldxImm (v : Byte)
  | ldxZp (zp : Byte)
  | ldxZpy (zp : Byte)
  | ldxAbs (addr : Word)
  | ldxAby (base : Word)
  /- LDY: 41_load_store.md R142 -/
  | ldyImm (v : Byte)
  | ldyZp (zp : Byte)
  | ldyZpx (zp : Byte)
  | ldyAbs (addr : Word)
  | ldyAbx (base : Word)
  /- STA: 41_load_store.md R143 -/
  | staZp (zp : Byte)
  | staZpx (zp : Byte)
  | staAbs (addr : Word)
  | staAbx (base : Word)
  | staAby (base : Word)
  | staIzx (ptr : Byte)
  | staIzy (ptr : Byte)
  /- STX: 41_load_store.md R144 -/
  | stxZp (zp : Byte)
  | stxZpy (zp : Byte)
  | stxAbs (addr : Word)
  /- STY: 41_load_store.md R145 -/
  | styZp (zp : Byte)
  | styZpx (zp : Byte)
  | styAbs (addr : Word)
  /- ADC: 42_arithmetic.md R150 -/
  | adcImm (v : Byte)
  | adcZp (zp : Byte)
  | adcZpx (zp : Byte)
  | adcAbs (addr : Word)
  | adcAbx (base : Word)
  | adcAby (base : Word)
  | adcIzx (ptr : Byte)
  | adcIzy (ptr : Byte)
  /- SBC: 42_arithmetic.md R151 -/
  | sbcImm (v : Byte)
  | sbcZp (zp : Byte)
  | sbcZpx (zp : Byte)
  | sbcAbs (addr : Word)
  | sbcAbx (base : Word)
  | sbcAby (base : Word)
  | sbcIzx (ptr : Byte)
  | sbcIzy (ptr : Byte)
  /- AND: 43_bitwise.md R160 -/
  | andImm (v : Byte)
  | andZp (zp : Byte)
  | andZpx (zp : Byte)
  | andAbs (addr : Word)
  | andAbx (base : Word)
  | andAby (base : Word)
  | andIzx (ptr : Byte)
  | andIzy (ptr : Byte)
  /- ORA: 43_bitwise.md R161 -/
  | oraImm (v : Byte)
  | oraZp (zp : Byte)
  | oraZpx (zp : Byte)
  | oraAbs (addr : Word)
  | oraAbx (base : Word)
  | oraAby (base : Word)
  | oraIzx (ptr : Byte)
  | oraIzy (ptr : Byte)
  /- EOR: 43_bitwise.md R162 -/
  | eorImm (v : Byte)
  | eorZp (zp : Byte)
  | eorZpx (zp : Byte)
  | eorAbs (addr : Word)
  | eorAbx (base : Word)
  | eorAby (base : Word)
  | eorIzx (ptr : Byte)
  | eorIzy (ptr : Byte)
  /- ASL: 44_shift_rotate.md R170 -/
  | aslAcc
  | aslZp (zp : Byte)
  | aslZpx (zp : Byte)
  | aslAbs (addr : Word)
  | aslAbx (base : Word)
  /- LSR: 44_shift_rotate.md R171 -/
  | lsrAcc
  | lsrZp (zp : Byte)
  | lsrZpx (zp : Byte)
  | lsrAbs (addr : Word)
  | lsrAbx (base : Word)
  /- ROL: 44_shift_rotate.md R172 -/
  | rolAcc
  | rolZp (zp : Byte)
  | rolZpx (zp : Byte)
  | rolAbs (addr : Word)
  | rolAbx (base : Word)
  /- ROR: 44_shift_rotate.md R173 -/
  | rorAcc
  | rorZp (zp : Byte)
  | rorZpx (zp : Byte)
  | rorAbs (addr : Word)
  | rorAbx (base : Word)
  /- INC: 45_inc_dec.md R180 -/
  | incZp (zp : Byte)
  | incZpx (zp : Byte)
  | incAbs (addr : Word)
  | incAbx (base : Word)
  /- DEC: 45_inc_dec.md R181 -/
  | decZp (zp : Byte)
  | decZpx (zp : Byte)
  | decAbs (addr : Word)
  | decAbx (base : Word)
  /- INX: 45_inc_dec.md R182 -/
  | inx
  /- INY: 45_inc_dec.md R183 -/
  | iny
  /- DEX: 45_inc_dec.md R184 -/
  | dex
  /- DEY: 45_inc_dec.md R185 -/
  | dey
  /- CMP: 46_compare_bit.md R190 -/
  | cmpImm (v : Byte)
  | cmpZp (zp : Byte)
  | cmpZpx (zp : Byte)
  | cmpAbs (addr : Word)
  | cmpAbx (base : Word)
  | cmpAby (base : Word)
  | cmpIzx (ptr : Byte)
  | cmpIzy (ptr : Byte)
  /- CPX: 46_compare_bit.md R191 -/
  | cpxImm (v : Byte)
  | cpxZp (zp : Byte)
  | cpxAbs (addr : Word)
  /- CPY: 46_compare_bit.md R192 -/
  | cpyImm (v : Byte)
  | cpyZp (zp : Byte)
  | cpyAbs (addr : Word)
  /- BIT: 46_compare_bit.md R193 -/
  | bitZp (zp : Byte)
  | bitAbs (addr : Word)
  /- BPL: 47_branch.md R202 -/
  | bpl (offset : Byte)
  /- BMI: 47_branch.md R203 -/
  | bmi (offset : Byte)
  /- BVC: 47_branch.md R204 -/
  | bvc (offset : Byte)
  /- BVS: 47_branch.md R205 -/
  | bvs (offset : Byte)
  /- BCC: 47_branch.md R206 -/
  | bcc (offset : Byte)
  /- BCS: 47_branch.md R207 -/
  | bcs (offset : Byte)
  /- BNE: 47_branch.md R208 -/
  | bne (offset : Byte)
  /- BEQ: 47_branch.md R209 -/
  | beq (offset : Byte)
  /- JMP: 48_jump_call_return.md R215, R216 -/
  | jmpAbs (target : Word)
  | jmpInd (ptr : Word)
  /- JSR: 48_jump_call_return.md R217 -/
  | jsr (target : Word)
  /- RTS: 48_jump_call_return.md R218 -/
  | rts
  /- RTI: 48_jump_call_return.md R219 -/
  | rti
  /- PHA: 49_stack_transfer_flag_system.md R230 -/
  | pha
  /- PHP: 49_stack_transfer_flag_system.md R231 -/
  | php
  /- PLA: 49_stack_transfer_flag_system.md R232 -/
  | pla
  /- PLP: 49_stack_transfer_flag_system.md R233 -/
  | plp
  /- TAX: 49_stack_transfer_flag_system.md R240 -/
  | tax
  /- TXA: 49_stack_transfer_flag_system.md R241 -/
  | txa
  /- TAY: 49_stack_transfer_flag_system.md R242 -/
  | tay
  /- TYA: 49_stack_transfer_flag_system.md R243 -/
  | tya
  /- TSX: 49_stack_transfer_flag_system.md R244 -/
  | tsx
  /- TXS: 49_stack_transfer_flag_system.md R245 -/
  | txs
  /- CLC: 49_stack_transfer_flag_system.md R250 -/
  | clc
  /- SEC: 49_stack_transfer_flag_system.md R251 -/
  | sec
  /- CLI: 49_stack_transfer_flag_system.md R252 -/
  | cli
  /- SEI: 49_stack_transfer_flag_system.md R253 -/
  | sei
  /- CLV: 49_stack_transfer_flag_system.md R254 -/
  | clv
  /- CLD: 49_stack_transfer_flag_system.md R255 -/
  | cld
  /- SED: 49_stack_transfer_flag_system.md R256 -/
  | sed
  /- NOP: 49_stack_transfer_flag_system.md R259 -/
  | nop
  /- BRK: 49_stack_transfer_flag_system.md R260 -/
  | brk
  /- The undefined opcode bytes: 49_stack_transfer_flag_system.md R262 -/
  | undef02 | undef03 | undef04 | undef07 | undef0B | undef0C | undef0F | undef12
  | undef13 | undef14 | undef17 | undef1A | undef1B | undef1C | undef1F | undef22
  | undef23 | undef27 | undef2B | undef2F | undef32 | undef33 | undef34 | undef37
  | undef3A | undef3B | undef3C | undef3F | undef42 | undef43 | undef44 | undef47
  | undef4B | undef4F | undef52 | undef53 | undef54 | undef57 | undef5A | undef5B
  | undef5C | undef5F | undef62 | undef63 | undef64 | undef67 | undef6B | undef6F
  | undef72 | undef73 | undef74 | undef77 | undef7A | undef7B | undef7C | undef7F
  | undef80 | undef82 | undef83 | undef87 | undef89 | undef8B | undef8F | undef92
  | undef93 | undef97 | undef9B | undef9C | undef9E | undef9F | undefA3 | undefA7
  | undefAB | undefAF | undefB2 | undefB3 | undefB7 | undefBB | undefBF | undefC2
  | undefC3 | undefC7 | undefCB | undefCF | undefD2 | undefD3 | undefD4 | undefD7
  | undefDA | undefDB | undefDC | undefDF | undefE2 | undefE3 | undefE7 | undefEB
  | undefEF | undefF2 | undefF3 | undefF4 | undefF7 | undefFA | undefFB | undefFC
  | undefFF
deriving DecidableEq, Repr

end Sys2Proof
end

