-- ==== Sys2Proof/Machine/Arithmetic.lean ====
section
/-! DEFINITION. ADC and SBC (42_arithmetic.md). The Decimal flag is not read (R153). -/

namespace Sys2Proof.Machine

/-- `A + operand + carry_in` as an unbounded integer (42_arithmetic.md R150). -/
def adcSum (a o : Byte) (carryIn : Nat) : Nat :=
  a.toNat + o.toNat + carryIn

/-- `A - operand - (1 - carry_in)` as an unbounded integer (42_arithmetic.md R151). -/
def sbcDifference (a o : Byte) (carryIn : Nat) : Int :=
  (a.toNat : Int) - o.toNat - (1 - carryIn)

/-- ADC (42_arithmetic.md R150): all reads of A use the value before the instruction (R157). -/
def addWithCarry (op : Operand) (s : State) : State :=
  let o := s.operand op
  let result := adcSum s.a o s.carryIn
  let t := BitVec.ofNat 8 result
  (((s.setFlag .overflow (adcOverflow s.a o t)).setFlag .carry (decide (255 < result))).setA t).setZN t

/-- SBC (42_arithmetic.md R151): the truncated result is the difference modulo 256, carry means no borrow. -/
def subtractWithCarry (op : Operand) (s : State) : State :=
  let o := s.operand op
  let result := sbcDifference s.a o s.carryIn
  let t := BitVec.ofInt 8 result
  (((s.setFlag .overflow (sbcOverflow s.a o t)).setFlag .carry (decide (0 ≤ result))).setA t).setZN t

/-! ADC (42_arithmetic.md R150). -/

def execAdcImm (v : Byte) (s : State) : Result := .next (addWithCarry (.immediate v) s)
def execAdcZp (zp : Byte) (s : State) : Result := .next (addWithCarry (.memory (.zeroPage zp)) s)
def execAdcZpx (zp : Byte) (s : State) : Result := .next (addWithCarry (.memory (.zeroPageX zp)) s)
def execAdcAbs (addr : Word) (s : State) : Result := .next (addWithCarry (.memory (.absolute addr)) s)
def execAdcAbx (base : Word) (s : State) : Result := .next (addWithCarry (.memory (.absoluteX base)) s)
def execAdcAby (base : Word) (s : State) : Result := .next (addWithCarry (.memory (.absoluteY base)) s)
def execAdcIzx (ptr : Byte) (s : State) : Result := .next (addWithCarry (.memory (.indirectX ptr)) s)
def execAdcIzy (ptr : Byte) (s : State) : Result := .next (addWithCarry (.memory (.indirectY ptr)) s)

/-! SBC (42_arithmetic.md R151). -/

def execSbcImm (v : Byte) (s : State) : Result := .next (subtractWithCarry (.immediate v) s)
def execSbcZp (zp : Byte) (s : State) : Result := .next (subtractWithCarry (.memory (.zeroPage zp)) s)
def execSbcZpx (zp : Byte) (s : State) : Result := .next (subtractWithCarry (.memory (.zeroPageX zp)) s)
def execSbcAbs (addr : Word) (s : State) : Result := .next (subtractWithCarry (.memory (.absolute addr)) s)
def execSbcAbx (base : Word) (s : State) : Result := .next (subtractWithCarry (.memory (.absoluteX base)) s)
def execSbcAby (base : Word) (s : State) : Result := .next (subtractWithCarry (.memory (.absoluteY base)) s)
def execSbcIzx (ptr : Byte) (s : State) : Result := .next (subtractWithCarry (.memory (.indirectX ptr)) s)
def execSbcIzy (ptr : Byte) (s : State) : Result := .next (subtractWithCarry (.memory (.indirectY ptr)) s)

end Sys2Proof.Machine
end

