-- ==== Sys2Proof/Machine/Bitwise.lean ====
section
/-! DEFINITION. AND, ORA, EOR (43_bitwise.md). -/

namespace Sys2Proof.Machine

/-- A takes a bitwise result, SetZN (43_bitwise.md R160 to R163). -/
def setLogic (r : Byte) (s : State) : State :=
  (s.setA r).setZN r

/-- AND (43_bitwise.md R160). -/
def andWithA (o : Operand) (s : State) : State := setLogic (s.a &&& s.operand o) s

/-- ORA (43_bitwise.md R161). -/
def orWithA (o : Operand) (s : State) : State := setLogic (s.a ||| s.operand o) s

/-- EOR (43_bitwise.md R162). -/
def xorWithA (o : Operand) (s : State) : State := setLogic (s.a ^^^ s.operand o) s

/-! AND (43_bitwise.md R160). -/

def execAndImm (v : Byte) (s : State) : Result := .next (andWithA (.immediate v) s)
def execAndZp (zp : Byte) (s : State) : Result := .next (andWithA (.memory (.zeroPage zp)) s)
def execAndZpx (zp : Byte) (s : State) : Result := .next (andWithA (.memory (.zeroPageX zp)) s)
def execAndAbs (addr : Word) (s : State) : Result := .next (andWithA (.memory (.absolute addr)) s)
def execAndAbx (base : Word) (s : State) : Result := .next (andWithA (.memory (.absoluteX base)) s)
def execAndAby (base : Word) (s : State) : Result := .next (andWithA (.memory (.absoluteY base)) s)
def execAndIzx (ptr : Byte) (s : State) : Result := .next (andWithA (.memory (.indirectX ptr)) s)
def execAndIzy (ptr : Byte) (s : State) : Result := .next (andWithA (.memory (.indirectY ptr)) s)

/-! ORA (43_bitwise.md R161). -/

def execOraImm (v : Byte) (s : State) : Result := .next (orWithA (.immediate v) s)
def execOraZp (zp : Byte) (s : State) : Result := .next (orWithA (.memory (.zeroPage zp)) s)
def execOraZpx (zp : Byte) (s : State) : Result := .next (orWithA (.memory (.zeroPageX zp)) s)
def execOraAbs (addr : Word) (s : State) : Result := .next (orWithA (.memory (.absolute addr)) s)
def execOraAbx (base : Word) (s : State) : Result := .next (orWithA (.memory (.absoluteX base)) s)
def execOraAby (base : Word) (s : State) : Result := .next (orWithA (.memory (.absoluteY base)) s)
def execOraIzx (ptr : Byte) (s : State) : Result := .next (orWithA (.memory (.indirectX ptr)) s)
def execOraIzy (ptr : Byte) (s : State) : Result := .next (orWithA (.memory (.indirectY ptr)) s)

/-! EOR (43_bitwise.md R162). -/

def execEorImm (v : Byte) (s : State) : Result := .next (xorWithA (.immediate v) s)
def execEorZp (zp : Byte) (s : State) : Result := .next (xorWithA (.memory (.zeroPage zp)) s)
def execEorZpx (zp : Byte) (s : State) : Result := .next (xorWithA (.memory (.zeroPageX zp)) s)
def execEorAbs (addr : Word) (s : State) : Result := .next (xorWithA (.memory (.absolute addr)) s)
def execEorAbx (base : Word) (s : State) : Result := .next (xorWithA (.memory (.absoluteX base)) s)
def execEorAby (base : Word) (s : State) : Result := .next (xorWithA (.memory (.absoluteY base)) s)
def execEorIzx (ptr : Byte) (s : State) : Result := .next (xorWithA (.memory (.indirectX ptr)) s)
def execEorIzy (ptr : Byte) (s : State) : Result := .next (xorWithA (.memory (.indirectY ptr)) s)

end Sys2Proof.Machine
end

