-- ==== Sys2Proof/Machine/Branch.lean ====
section
/-! DEFINITION. The eight conditional branches (47_branch.md). -/

namespace Sys2Proof.Machine

/-- `Branch(cond)`: PC is already past the offset byte; a taken branch adds the signed offset modulo 65536
(47_branch.md R201). -/
def branchIf (cond : Bool) (offset : Byte) (s : State) : State :=
  if cond then s.setPc (s.pc + signExtend offset) else s

/-- BPL (47_branch.md R202). -/
def execBpl (offset : Byte) (s : State) : Result := .next (branchIf (!s.flag .negative) offset s)

/-- BMI (47_branch.md R203). -/
def execBmi (offset : Byte) (s : State) : Result := .next (branchIf (s.flag .negative) offset s)

/-- BVC (47_branch.md R204). -/
def execBvc (offset : Byte) (s : State) : Result := .next (branchIf (!s.flag .overflow) offset s)

/-- BVS (47_branch.md R205). -/
def execBvs (offset : Byte) (s : State) : Result := .next (branchIf (s.flag .overflow) offset s)

/-- BCC (47_branch.md R206). -/
def execBcc (offset : Byte) (s : State) : Result := .next (branchIf (!s.flag .carry) offset s)

/-- BCS (47_branch.md R207). -/
def execBcs (offset : Byte) (s : State) : Result := .next (branchIf (s.flag .carry) offset s)

/-- BNE (47_branch.md R208). -/
def execBne (offset : Byte) (s : State) : Result := .next (branchIf (!s.flag .zero) offset s)

/-- BEQ (47_branch.md R209). -/
def execBeq (offset : Byte) (s : State) : Result := .next (branchIf (s.flag .zero) offset s)

end Sys2Proof.Machine
end

