-- ==== Sys2Proof/Machine/CompareBit.lean ====
section
/-! DEFINITION. CMP, CPX, CPY, BIT (46_compare_bit.md). No register and no cell is written. -/

namespace Sys2Proof.Machine

/-- CMP (46_compare_bit.md R190). -/
def compareA (o : Operand) (s : State) : State := s.compare s.a (s.operand o)

/-- CPX (46_compare_bit.md R191). -/
def compareX (o : Operand) (s : State) : State := s.compare s.x (s.operand o)

/-- CPY (46_compare_bit.md R192). -/
def compareY (o : Operand) (s : State) : State := s.compare s.y (s.operand o)

/-- BIT (46_compare_bit.md R193). -/
def testBits (m : MemOperand) (s : State) : State := s.bitTest (s.memRead (s.effectiveAddress m))

/-! CMP (46_compare_bit.md R190). -/

def execCmpImm (v : Byte) (s : State) : Result := .next (compareA (.immediate v) s)
def execCmpZp (zp : Byte) (s : State) : Result := .next (compareA (.memory (.zeroPage zp)) s)
def execCmpZpx (zp : Byte) (s : State) : Result := .next (compareA (.memory (.zeroPageX zp)) s)
def execCmpAbs (addr : Word) (s : State) : Result := .next (compareA (.memory (.absolute addr)) s)
def execCmpAbx (base : Word) (s : State) : Result := .next (compareA (.memory (.absoluteX base)) s)
def execCmpAby (base : Word) (s : State) : Result := .next (compareA (.memory (.absoluteY base)) s)
def execCmpIzx (ptr : Byte) (s : State) : Result := .next (compareA (.memory (.indirectX ptr)) s)
def execCmpIzy (ptr : Byte) (s : State) : Result := .next (compareA (.memory (.indirectY ptr)) s)

/-! CPX (46_compare_bit.md R191). -/

def execCpxImm (v : Byte) (s : State) : Result := .next (compareX (.immediate v) s)
def execCpxZp (zp : Byte) (s : State) : Result := .next (compareX (.memory (.zeroPage zp)) s)
def execCpxAbs (addr : Word) (s : State) : Result := .next (compareX (.memory (.absolute addr)) s)

/-! CPY (46_compare_bit.md R192). -/

def execCpyImm (v : Byte) (s : State) : Result := .next (compareY (.immediate v) s)
def execCpyZp (zp : Byte) (s : State) : Result := .next (compareY (.memory (.zeroPage zp)) s)
def execCpyAbs (addr : Word) (s : State) : Result := .next (compareY (.memory (.absolute addr)) s)

/-! BIT (46_compare_bit.md R193). -/

def execBitZp (zp : Byte) (s : State) : Result := .next (testBits (.zeroPage zp) s)
def execBitAbs (addr : Word) (s : State) : Result := .next (testBits (.absolute addr) s)

end Sys2Proof.Machine
end

