-- ==== Sys2Proof/Machine/IncDec.lean ====
section
/-! DEFINITION. INC, DEC, INX, INY, DEX, DEY (45_inc_dec.md): one modulo 256, C and V untouched. -/

namespace Sys2Proof.Machine

/-- A read-modify-write of one cell, SetZN of the new byte; the address is computed once (45_inc_dec.md R180, R181,
R186). -/
def updateCell (m : MemOperand) (f : Byte → Byte) (s : State) : State :=
  let addr := s.effectiveAddress m
  let r := f (s.memRead addr)
  (s.memWrite addr r).setZN r

/-- INC (45_inc_dec.md R180). -/
def incrementCell (m : MemOperand) (s : State) : State := updateCell m (· + 1#8) s

/-- DEC (45_inc_dec.md R181). -/
def decrementCell (m : MemOperand) (s : State) : State := updateCell m (· - 1#8) s

/-- X takes a byte, SetZN (45_inc_dec.md R182, R184). -/
def countX (r : Byte) (s : State) : State := (s.setX r).setZN r

/-- Y takes a byte, SetZN (45_inc_dec.md R183, R185). -/
def countY (r : Byte) (s : State) : State := (s.setY r).setZN r

/-! INC (45_inc_dec.md R180). -/

def execIncZp (zp : Byte) (s : State) : Result := .next (incrementCell (.zeroPage zp) s)
def execIncZpx (zp : Byte) (s : State) : Result := .next (incrementCell (.zeroPageX zp) s)
def execIncAbs (addr : Word) (s : State) : Result := .next (incrementCell (.absolute addr) s)
def execIncAbx (base : Word) (s : State) : Result := .next (incrementCell (.absoluteX base) s)

/-! DEC (45_inc_dec.md R181). -/

def execDecZp (zp : Byte) (s : State) : Result := .next (decrementCell (.zeroPage zp) s)
def execDecZpx (zp : Byte) (s : State) : Result := .next (decrementCell (.zeroPageX zp) s)
def execDecAbs (addr : Word) (s : State) : Result := .next (decrementCell (.absolute addr) s)
def execDecAbx (base : Word) (s : State) : Result := .next (decrementCell (.absoluteX base) s)

/-- INX (45_inc_dec.md R182). -/
def execInx (s : State) : Result := .next (countX (s.x + 1#8) s)

/-- INY (45_inc_dec.md R183). -/
def execIny (s : State) : Result := .next (countY (s.y + 1#8) s)

/-- DEX (45_inc_dec.md R184). -/
def execDex (s : State) : Result := .next (countX (s.x - 1#8) s)

/-- DEY (45_inc_dec.md R185). -/
def execDey (s : State) : Result := .next (countY (s.y - 1#8) s)

end Sys2Proof.Machine
end

