-- ==== Sys2Proof/Machine/JumpCall.lean ====
section
/-! DEFINITION. JMP, JSR, RTS, RTI (48_jump_call_return.md). -/

namespace Sys2Proof.Machine

/-- JMP Absolute (48_jump_call_return.md R215). -/
def execJmpAbs (target : Word) (s : State) : Result := .next (s.setPc target)

/-- JMP Indirect (48_jump_call_return.md R216). -/
def execJmpInd (ptr : Word) (s : State) : Result := .next (s.setPc (s.indirectTarget ptr))

/-- JSR (48_jump_call_return.md R217): PC is past both operand bytes, so `PC - 1` is the address of the
instruction's last byte. -/
def execJsr (target : Word) (s : State) : Result := .next ((pushWord (s.pc - 1#16) s).setPc target)

/-- RTS (48_jump_call_return.md R218). -/
def execRts (s : State) : Result :=
  let pulled := pullWord s
  .next (pulled.2.setPc (pulled.1 + 1#16))

/-- RTI (48_jump_call_return.md R219): status, then PC low, then PC high, with no `+ 1`. -/
def execRti (s : State) : Result :=
  let status := pull8 s
  let pulled := pullWord (status.2.loadStatus status.1)
  .next (pulled.2.setPc pulled.1)

end Sys2Proof.Machine
end

