-- ==== Sys2Proof/Machine/LoadStore.lean ====
section
/-! DEFINITION. Loads and stores (41_load_store.md). -/

namespace Sys2Proof.Machine

/-- LDA: A takes the operand byte, SetZN (41_load_store.md R140). -/
def loadA (o : Operand) (s : State) : State :=
  let v := s.operand o
  (s.setA v).setZN v

/-- LDX: X takes the operand byte, SetZN (41_load_store.md R141). -/
def loadX (o : Operand) (s : State) : State :=
  let v := s.operand o
  (s.setX v).setZN v

/-- LDY: Y takes the operand byte, SetZN (41_load_store.md R142). -/
def loadY (o : Operand) (s : State) : State :=
  let v := s.operand o
  (s.setY v).setZN v

/-- A store: one write at EA, no read, no flag (41_load_store.md R143 to R145). -/
def storeByte (m : MemOperand) (v : Byte) (s : State) : State :=
  s.memWrite (s.effectiveAddress m) v

/-! LDA (41_load_store.md R140). -/

def execLdaImm (v : Byte) (s : State) : Result := .next (loadA (.immediate v) s)
def execLdaZp (zp : Byte) (s : State) : Result := .next (loadA (.memory (.zeroPage zp)) s)
def execLdaZpx (zp : Byte) (s : State) : Result := .next (loadA (.memory (.zeroPageX zp)) s)
def execLdaAbs (addr : Word) (s : State) : Result := .next (loadA (.memory (.absolute addr)) s)
def execLdaAbx (base : Word) (s : State) : Result := .next (loadA (.memory (.absoluteX base)) s)
def execLdaAby (base : Word) (s : State) : Result := .next (loadA (.memory (.absoluteY base)) s)
def execLdaIzx (ptr : Byte) (s : State) : Result := .next (loadA (.memory (.indirectX ptr)) s)
def execLdaIzy (ptr : Byte) (s : State) : Result := .next (loadA (.memory (.indirectY ptr)) s)

/-! LDX (41_load_store.md R141). -/

def execLdxImm (v : Byte) (s : State) : Result := .next (loadX (.immediate v) s)
def execLdxZp (zp : Byte) (s : State) : Result := .next (loadX (.memory (.zeroPage zp)) s)
def execLdxZpy (zp : Byte) (s : State) : Result := .next (loadX (.memory (.zeroPageY zp)) s)
def execLdxAbs (addr : Word) (s : State) : Result := .next (loadX (.memory (.absolute addr)) s)
def execLdxAby (base : Word) (s : State) : Result := .next (loadX (.memory (.absoluteY base)) s)

/-! LDY (41_load_store.md R142). -/

def execLdyImm (v : Byte) (s : State) : Result := .next (loadY (.immediate v) s)
def execLdyZp (zp : Byte) (s : State) : Result := .next (loadY (.memory (.zeroPage zp)) s)
def execLdyZpx (zp : Byte) (s : State) : Result := .next (loadY (.memory (.zeroPageX zp)) s)
def execLdyAbs (addr : Word) (s : State) : Result := .next (loadY (.memory (.absolute addr)) s)
def execLdyAbx (base : Word) (s : State) : Result := .next (loadY (.memory (.absoluteX base)) s)

/-! STA (41_load_store.md R143). -/

def execStaZp (zp : Byte) (s : State) : Result := .next (storeByte (.zeroPage zp) s.a s)
def execStaZpx (zp : Byte) (s : State) : Result := .next (storeByte (.zeroPageX zp) s.a s)
def execStaAbs (addr : Word) (s : State) : Result := .next (storeByte (.absolute addr) s.a s)
def execStaAbx (base : Word) (s : State) : Result := .next (storeByte (.absoluteX base) s.a s)
def execStaAby (base : Word) (s : State) : Result := .next (storeByte (.absoluteY base) s.a s)
def execStaIzx (ptr : Byte) (s : State) : Result := .next (storeByte (.indirectX ptr) s.a s)
def execStaIzy (ptr : Byte) (s : State) : Result := .next (storeByte (.indirectY ptr) s.a s)

/-! STX (41_load_store.md R144). -/

def execStxZp (zp : Byte) (s : State) : Result := .next (storeByte (.zeroPage zp) s.x s)
def execStxZpy (zp : Byte) (s : State) : Result := .next (storeByte (.zeroPageY zp) s.x s)
def execStxAbs (addr : Word) (s : State) : Result := .next (storeByte (.absolute addr) s.x s)

/-! STY (41_load_store.md R145). -/

def execStyZp (zp : Byte) (s : State) : Result := .next (storeByte (.zeroPage zp) s.y s)
def execStyZpx (zp : Byte) (s : State) : Result := .next (storeByte (.zeroPageX zp) s.y s)
def execStyAbs (addr : Word) (s : State) : Result := .next (storeByte (.absolute addr) s.y s)

end Sys2Proof.Machine
end

