-- ==== Sys2Proof/Machine/ShiftRotate.lean ====
section
/-! DEFINITION. ASL, LSR, ROL, ROR on A or on one memory cell (44_shift_rotate.md). -/

namespace Sys2Proof.Machine

/-- The common end of the four: the shifted-out bit to C, the result to the target, SetZN (44_shift_rotate.md R170
to R173, R176). The address is computed once, before anything is written (40_addressing.md R121). -/
def shiftTo (t : Target) (shiftedOut : Bool) (r : Byte) (s : State) : State :=
  ((s.writeTarget t r).setFlag .carry shiftedOut).setZN r

/-- The old carry as bit 0 of a byte (44_shift_rotate.md R172). -/
def State.carryAtBit0 (s : State) : Byte := if s.flag .carry then 0x01#8 else 0x00#8

/-- The old carry as bit 7 of a byte (44_shift_rotate.md R173). -/
def State.carryAtBit7 (s : State) : Byte := if s.flag .carry then 0x80#8 else 0x00#8

/-- ASL (44_shift_rotate.md R170). -/
def shiftLeft (t : Target) (s : State) : State :=
  let v := s.readTarget t
  shiftTo t (v.getLsbD 7) (v <<< 1) s

/-- LSR (44_shift_rotate.md R171). -/
def shiftRight (t : Target) (s : State) : State :=
  let v := s.readTarget t
  shiftTo t (v.getLsbD 0) (v >>> 1) s

/-- ROL: the old carry enters at bit 0 (44_shift_rotate.md R172). -/
def rotateLeft (t : Target) (s : State) : State :=
  let v := s.readTarget t
  shiftTo t (v.getLsbD 7) ((v <<< 1) ||| s.carryAtBit0) s

/-- ROR: the old carry enters at bit 7 (44_shift_rotate.md R173). -/
def rotateRight (t : Target) (s : State) : State :=
  let v := s.readTarget t
  shiftTo t (v.getLsbD 0) ((v >>> 1) ||| s.carryAtBit7) s

/-! ASL (44_shift_rotate.md R170). -/

def execAslAcc (s : State) : Result := .next (shiftLeft .accumulator s)
def execAslZp (zp : Byte) (s : State) : Result := .next (shiftLeft (.memory (.zeroPage zp)) s)
def execAslZpx (zp : Byte) (s : State) : Result := .next (shiftLeft (.memory (.zeroPageX zp)) s)
def execAslAbs (addr : Word) (s : State) : Result := .next (shiftLeft (.memory (.absolute addr)) s)
def execAslAbx (base : Word) (s : State) : Result := .next (shiftLeft (.memory (.absoluteX base)) s)

/-! LSR (44_shift_rotate.md R171). -/

def execLsrAcc (s : State) : Result := .next (shiftRight .accumulator s)
def execLsrZp (zp : Byte) (s : State) : Result := .next (shiftRight (.memory (.zeroPage zp)) s)
def execLsrZpx (zp : Byte) (s : State) : Result := .next (shiftRight (.memory (.zeroPageX zp)) s)
def execLsrAbs (addr : Word) (s : State) : Result := .next (shiftRight (.memory (.absolute addr)) s)
def execLsrAbx (base : Word) (s : State) : Result := .next (shiftRight (.memory (.absoluteX base)) s)

/-! ROL (44_shift_rotate.md R172). -/

def execRolAcc (s : State) : Result := .next (rotateLeft .accumulator s)
def execRolZp (zp : Byte) (s : State) : Result := .next (rotateLeft (.memory (.zeroPage zp)) s)
def execRolZpx (zp : Byte) (s : State) : Result := .next (rotateLeft (.memory (.zeroPageX zp)) s)
def execRolAbs (addr : Word) (s : State) : Result := .next (rotateLeft (.memory (.absolute addr)) s)
def execRolAbx (base : Word) (s : State) : Result := .next (rotateLeft (.memory (.absoluteX base)) s)

/-! ROR (44_shift_rotate.md R173). -/

def execRorAcc (s : State) : Result := .next (rotateRight .accumulator s)
def execRorZp (zp : Byte) (s : State) : Result := .next (rotateRight (.memory (.zeroPage zp)) s)
def execRorZpx (zp : Byte) (s : State) : Result := .next (rotateRight (.memory (.zeroPageX zp)) s)
def execRorAbs (addr : Word) (s : State) : Result := .next (rotateRight (.memory (.absolute addr)) s)
def execRorAbx (base : Word) (s : State) : Result := .next (rotateRight (.memory (.absoluteX base)) s)

end Sys2Proof.Machine
end

