-- ==== Sys2Proof/Machine/StackTransferFlag.lean ====
section
/-! DEFINITION. Stack, transfer and flag instructions (49_stack_transfer_flag_system.md, sections 1 to 3). -/

namespace Sys2Proof.Machine

/-- PHA (49_stack_transfer_flag_system.md R230). -/
def execPha (s : State) : Result := .next (push8 s.a s)

/-- PHP (49_stack_transfer_flag_system.md R231): P itself is unchanged. -/
def execPhp (s : State) : Result := .next (push8 (s.p ||| phpPushOr s.params) s)

/-- PLA (49_stack_transfer_flag_system.md R232). -/
def execPla (s : State) : Result :=
  let pulled := pull8 s
  .next ((pulled.2.setA pulled.1).setZN pulled.1)

/-- PLP (49_stack_transfer_flag_system.md R233). -/
def execPlp (s : State) : Result :=
  let pulled := pull8 s
  .next (pulled.2.loadStatus pulled.1)

/-- TAX (49_stack_transfer_flag_system.md R240). -/
def execTax (s : State) : Result := .next ((s.setX s.a).setZN s.a)

/-- TXA (49_stack_transfer_flag_system.md R241). -/
def execTxa (s : State) : Result := .next ((s.setA s.x).setZN s.x)

/-- TAY (49_stack_transfer_flag_system.md R242). -/
def execTay (s : State) : Result := .next ((s.setY s.a).setZN s.a)

/-- TYA (49_stack_transfer_flag_system.md R243). -/
def execTya (s : State) : Result := .next ((s.setA s.y).setZN s.y)

/-- TSX (49_stack_transfer_flag_system.md R244). -/
def execTsx (s : State) : Result := .next ((s.setX s.sp).setZN s.sp)

/-- TXS, the one transfer that sets no flag (49_stack_transfer_flag_system.md R245; D3, log entry 16). -/
def execTxs (s : State) : Result := .next (s.setSp s.x)

/-- CLC (49_stack_transfer_flag_system.md R250). -/
def execClc (s : State) : Result := .next (s.setFlag .carry false)

/-- SEC (49_stack_transfer_flag_system.md R251). -/
def execSec (s : State) : Result := .next (s.setFlag .carry true)

/-- CLI (49_stack_transfer_flag_system.md R252). -/
def execCli (s : State) : Result := .next (s.setFlag .interruptDisable false)

/-- SEI (49_stack_transfer_flag_system.md R253). -/
def execSei (s : State) : Result := .next (s.setFlag .interruptDisable true)

/-- CLV (49_stack_transfer_flag_system.md R254). -/
def execClv (s : State) : Result := .next (s.setFlag .overflow false)

/-- CLD (49_stack_transfer_flag_system.md R255). -/
def execCld (s : State) : Result := .next (s.setFlag .decimal false)

/-- SED (49_stack_transfer_flag_system.md R256). -/
def execSed (s : State) : Result := .next (s.setFlag .decimal true)

end Sys2Proof.Machine
end

