-- ==== Sys2Proof/Machine/SystemOps.lean ====
section
/-! DEFINITION. NOP and BRK (49_stack_transfer_flag_system.md, section 4). -/

namespace Sys2Proof.Machine

/-- NOP (49_stack_transfer_flag_system.md R259): nothing beyond the fetch. -/
def execNop (s : State) : Result := .next s

/-- BRK (49_stack_transfer_flag_system.md R260): sets Halted and nothing more; no push, no vector, no flag (D14, log entry 18). -/
def execBrk (s : State) : Result := .next s.halt

end Sys2Proof.Machine
end

