-- ==== Sys2Proof/Machine/Undefined.lean ====
section
/-! DEFINITION. The undefined opcode bytes (49_stack_transfer_flag_system.md section 5). -/

namespace Sys2Proof.Machine

/-- "silently treated as a one-byte NOP (cycle still counted, PC already past the opcode)": nothing happens beyond
the fetch (49_stack_transfer_flag_system.md R262). -/
def undefinedOpcode (s : State) : State := s

/-- What the dispatcher does on a defined byte left out of `OPSET`: the same R262 (60_exceptions.md R270; log entry 11). -/
def execOmitted (s : State) : Result := .next (undefinedOpcode s)

/-! The 105 bytes of 30_encoding.md R92. -/

def execUndef02 (s : State) : Result := .next (undefinedOpcode s)
def execUndef03 (s : State) : Result := .next (undefinedOpcode s)
def execUndef04 (s : State) : Result := .next (undefinedOpcode s)
def execUndef07 (s : State) : Result := .next (undefinedOpcode s)
def execUndef0B (s : State) : Result := .next (undefinedOpcode s)
def execUndef0C (s : State) : Result := .next (undefinedOpcode s)
def execUndef0F (s : State) : Result := .next (undefinedOpcode s)
def execUndef12 (s : State) : Result := .next (undefinedOpcode s)
def execUndef13 (s : State) : Result := .next (undefinedOpcode s)
def execUndef14 (s : State) : Result := .next (undefinedOpcode s)
def execUndef17 (s : State) : Result := .next (undefinedOpcode s)
def execUndef1A (s : State) : Result := .next (undefinedOpcode s)
def execUndef1B (s : State) : Result := .next (undefinedOpcode s)
def execUndef1C (s : State) : Result := .next (undefinedOpcode s)
def execUndef1F (s : State) : Result := .next (undefinedOpcode s)
def execUndef22 (s : State) : Result := .next (undefinedOpcode s)
def execUndef23 (s : State) : Result := .next (undefinedOpcode s)
def execUndef27 (s : State) : Result := .next (undefinedOpcode s)
def execUndef2B (s : State) : Result := .next (undefinedOpcode s)
def execUndef2F (s : State) : Result := .next (undefinedOpcode s)
def execUndef32 (s : State) : Result := .next (undefinedOpcode s)
def execUndef33 (s : State) : Result := .next (undefinedOpcode s)
def execUndef34 (s : State) : Result := .next (undefinedOpcode s)
def execUndef37 (s : State) : Result := .next (undefinedOpcode s)
def execUndef3A (s : State) : Result := .next (undefinedOpcode s)
def execUndef3B (s : State) : Result := .next (undefinedOpcode s)
def execUndef3C (s : State) : Result := .next (undefinedOpcode s)
def execUndef3F (s : State) : Result := .next (undefinedOpcode s)
def execUndef42 (s : State) : Result := .next (undefinedOpcode s)
def execUndef43 (s : State) : Result := .next (undefinedOpcode s)
def execUndef44 (s : State) : Result := .next (undefinedOpcode s)
def execUndef47 (s : State) : Result := .next (undefinedOpcode s)
def execUndef4B (s : State) : Result := .next (undefinedOpcode s)
def execUndef4F (s : State) : Result := .next (undefinedOpcode s)
def execUndef52 (s : State) : Result := .next (undefinedOpcode s)
def execUndef53 (s : State) : Result := .next (undefinedOpcode s)
def execUndef54 (s : State) : Result := .next (undefinedOpcode s)
def execUndef57 (s : State) : Result := .next (undefinedOpcode s)
def execUndef5A (s : State) : Result := .next (undefinedOpcode s)
def execUndef5B (s : State) : Result := .next (undefinedOpcode s)
def execUndef5C (s : State) : Result := .next (undefinedOpcode s)
def execUndef5F (s : State) : Result := .next (undefinedOpcode s)
def execUndef62 (s : State) : Result := .next (undefinedOpcode s)
def execUndef63 (s : State) : Result := .next (undefinedOpcode s)
def execUndef64 (s : State) : Result := .next (undefinedOpcode s)
def execUndef67 (s : State) : Result := .next (undefinedOpcode s)
def execUndef6B (s : State) : Result := .next (undefinedOpcode s)
def execUndef6F (s : State) : Result := .next (undefinedOpcode s)
def execUndef72 (s : State) : Result := .next (undefinedOpcode s)
def execUndef73 (s : State) : Result := .next (undefinedOpcode s)
def execUndef74 (s : State) : Result := .next (undefinedOpcode s)
def execUndef77 (s : State) : Result := .next (undefinedOpcode s)
def execUndef7A (s : State) : Result := .next (undefinedOpcode s)
def execUndef7B (s : State) : Result := .next (undefinedOpcode s)
def execUndef7C (s : State) : Result := .next (undefinedOpcode s)
def execUndef7F (s : State) : Result := .next (undefinedOpcode s)
def execUndef80 (s : State) : Result := .next (undefinedOpcode s)
def execUndef82 (s : State) : Result := .next (undefinedOpcode s)
def execUndef83 (s : State) : Result := .next (undefinedOpcode s)
def execUndef87 (s : State) : Result := .next (undefinedOpcode s)
def execUndef89 (s : State) : Result := .next (undefinedOpcode s)
def execUndef8B (s : State) : Result := .next (undefinedOpcode s)
def execUndef8F (s : State) : Result := .next (undefinedOpcode s)
def execUndef92 (s : State) : Result := .next (undefinedOpcode s)
def execUndef93 (s : State) : Result := .next (undefinedOpcode s)
def execUndef97 (s : State) : Result := .next (undefinedOpcode s)
def execUndef9B (s : State) : Result := .next (undefinedOpcode s)
def execUndef9C (s : State) : Result := .next (undefinedOpcode s)
def execUndef9E (s : State) : Result := .next (undefinedOpcode s)
def execUndef9F (s : State) : Result := .next (undefinedOpcode s)
def execUndefA3 (s : State) : Result := .next (undefinedOpcode s)
def execUndefA7 (s : State) : Result := .next (undefinedOpcode s)
def execUndefAB (s : State) : Result := .next (undefinedOpcode s)
def execUndefAF (s : State) : Result := .next (undefinedOpcode s)
def execUndefB2 (s : State) : Result := .next (undefinedOpcode s)
def execUndefB3 (s : State) : Result := .next (undefinedOpcode s)
def execUndefB7 (s : State) : Result := .next (undefinedOpcode s)
def execUndefBB (s : State) : Result := .next (undefinedOpcode s)
def execUndefBF (s : State) : Result := .next (undefinedOpcode s)
def execUndefC2 (s : State) : Result := .next (undefinedOpcode s)
def execUndefC3 (s : State) : Result := .next (undefinedOpcode s)
def execUndefC7 (s : State) : Result := .next (undefinedOpcode s)
def execUndefCB (s : State) : Result := .next (undefinedOpcode s)
def execUndefCF (s : State) : Result := .next (undefinedOpcode s)
def execUndefD2 (s : State) : Result := .next (undefinedOpcode s)
def execUndefD3 (s : State) : Result := .next (undefinedOpcode s)
def execUndefD4 (s : State) : Result := .next (undefinedOpcode s)
def execUndefD7 (s : State) : Result := .next (undefinedOpcode s)
def execUndefDA (s : State) : Result := .next (undefinedOpcode s)
def execUndefDB (s : State) : Result := .next (undefinedOpcode s)
def execUndefDC (s : State) : Result := .next (undefinedOpcode s)
def execUndefDF (s : State) : Result := .next (undefinedOpcode s)
def execUndefE2 (s : State) : Result := .next (undefinedOpcode s)
def execUndefE3 (s : State) : Result := .next (undefinedOpcode s)
def execUndefE7 (s : State) : Result := .next (undefinedOpcode s)
def execUndefEB (s : State) : Result := .next (undefinedOpcode s)
def execUndefEF (s : State) : Result := .next (undefinedOpcode s)
def execUndefF2 (s : State) : Result := .next (undefinedOpcode s)
def execUndefF3 (s : State) : Result := .next (undefinedOpcode s)
def execUndefF4 (s : State) : Result := .next (undefinedOpcode s)
def execUndefF7 (s : State) : Result := .next (undefinedOpcode s)
def execUndefFA (s : State) : Result := .next (undefinedOpcode s)
def execUndefFB (s : State) : Result := .next (undefinedOpcode s)
def execUndefFC (s : State) : Result := .next (undefinedOpcode s)
def execUndefFF (s : State) : Result := .next (undefinedOpcode s)

end Sys2Proof.Machine
end

