-- ==== Sys2Proof/Machine/Dispatch.lean ====
section
/-! DEFINITION. The dispatcher (60_exceptions.md R270): one arm per constructor of Instr, which is one arm per row of
spec/opcode_table.json. The state an arm gets has the whole instruction fetched: PC is past its operand bytes and
Cycles already counts it (log entry 10). -/

namespace Sys2Proof.Machine

def exec (i : Instr) (s : State) : Host.Outcome State Fault Refusal :=
  match i with
  | .ldaImm v => Sys2Proof.Machine.execLdaImm v s
  | .ldaZp zp => Sys2Proof.Machine.execLdaZp zp s
  | .ldaZpx zp => Sys2Proof.Machine.execLdaZpx zp s
  | .ldaAbs addr => Sys2Proof.Machine.execLdaAbs addr s
  | .ldaAbx base => Sys2Proof.Machine.execLdaAbx base s
  | .ldaAby base => Sys2Proof.Machine.execLdaAby base s
  | .ldaIzx ptr => Sys2Proof.Machine.execLdaIzx ptr s
  | .ldaIzy ptr => Sys2Proof.Machine.execLdaIzy ptr s
  | .ldxImm v => Sys2Proof.Machine.execLdxImm v s
  | .ldxZp zp => Sys2Proof.Machine.execLdxZp zp s
  | .ldxZpy zp => Sys2Proof.Machine.execLdxZpy zp s
  | .ldxAbs addr => Sys2Proof.Machine.execLdxAbs addr s
  | .ldxAby base => Sys2Proof.Machine.execLdxAby base s
  | .ldyImm v => Sys2Proof.Machine.execLdyImm v s
  | .ldyZp zp => Sys2Proof.Machine.execLdyZp zp s
  | .ldyZpx zp => Sys2Proof.Machine.execLdyZpx zp s
  | .ldyAbs addr => Sys2Proof.Machine.execLdyAbs addr s
  | .ldyAbx base => Sys2Proof.Machine.execLdyAbx base s
  | .staZp zp => Sys2Proof.Machine.execStaZp zp s
  | .staZpx zp => Sys2Proof.Machine.execStaZpx zp s
  | .staAbs addr => Sys2Proof.Machine.execStaAbs addr s
  | .staAbx base => Sys2Proof.Machine.execStaAbx base s
  | .staAby base => Sys2Proof.Machine.execStaAby base s
  | .staIzx ptr => Sys2Proof.Machine.execStaIzx ptr s
  | .staIzy ptr => Sys2Proof.Machine.execStaIzy ptr s
  | .stxZp zp => Sys2Proof.Machine.execStxZp zp s
  | .stxZpy zp => Sys2Proof.Machine.execStxZpy zp s
  | .stxAbs addr => Sys2Proof.Machine.execStxAbs addr s
  | .styZp zp => Sys2Proof.Machine.execStyZp zp s
  | .styZpx zp => Sys2Proof.Machine.execStyZpx zp s
  | .styAbs addr => Sys2Proof.Machine.execStyAbs addr s
  | .adcImm v => Sys2Proof.Machine.execAdcImm v s
  | .adcZp zp => Sys2Proof.Machine.execAdcZp zp s
  | .adcZpx zp => Sys2Proof.Machine.execAdcZpx zp s
  | .adcAbs addr => Sys2Proof.Machine.execAdcAbs addr s
  | .adcAbx base => Sys2Proof.Machine.execAdcAbx base s
  | .adcAby base => Sys2Proof.Machine.execAdcAby base s
  | .adcIzx ptr => Sys2Proof.Machine.execAdcIzx ptr s
  | .adcIzy ptr => Sys2Proof.Machine.execAdcIzy ptr s
  | .sbcImm v => Sys2Proof.Machine.execSbcImm v s
  | .sbcZp zp => Sys2Proof.Machine.execSbcZp zp s
  | .sbcZpx zp => Sys2Proof.Machine.execSbcZpx zp s
  | .sbcAbs addr => Sys2Proof.Machine.execSbcAbs addr s
  | .sbcAbx base => Sys2Proof.Machine.execSbcAbx base s
  | .sbcAby base => Sys2Proof.Machine.execSbcAby base s
  | .sbcIzx ptr => Sys2Proof.Machine.execSbcIzx ptr s
  | .sbcIzy ptr => Sys2Proof.Machine.execSbcIzy ptr s
  | .andImm v => Sys2Proof.Machine.execAndImm v s
  | .andZp zp => Sys2Proof.Machine.execAndZp zp s
  | .andZpx zp => Sys2Proof.Machine.execAndZpx zp s
  | .andAbs addr => Sys2Proof.Machine.execAndAbs addr s
  | .andAbx base => Sys2Proof.Machine.execAndAbx base s
  | .andAby base => Sys2Proof.Machine.execAndAby base s
  | .andIzx ptr => Sys2Proof.Machine.execAndIzx ptr s
  | .andIzy ptr => Sys2Proof.Machine.execAndIzy ptr s
  | .oraImm v => Sys2Proof.Machine.execOraImm v s
  | .oraZp zp => Sys2Proof.Machine.execOraZp zp s
  | .oraZpx zp => Sys2Proof.Machine.execOraZpx zp s
  | .oraAbs addr => Sys2Proof.Machine.execOraAbs addr s
  | .oraAbx base => Sys2Proof.Machine.execOraAbx base s
  | .oraAby base => Sys2Proof.Machine.execOraAby base s
  | .oraIzx ptr => Sys2Proof.Machine.execOraIzx ptr s
  | .oraIzy ptr => Sys2Proof.Machine.execOraIzy ptr s
  | .eorImm v => Sys2Proof.Machine.execEorImm v s
  | .eorZp zp => Sys2Proof.Machine.execEorZp zp s
  | .eorZpx zp => Sys2Proof.Machine.execEorZpx zp s
  | .eorAbs addr => Sys2Proof.Machine.execEorAbs addr s
  | .eorAbx base => Sys2Proof.Machine.execEorAbx base s
  | .eorAby base => Sys2Proof.Machine.execEorAby base s
  | .eorIzx ptr => Sys2Proof.Machine.execEorIzx ptr s
  | .eorIzy ptr => Sys2Proof.Machine.execEorIzy ptr s
  | .aslAcc => Sys2Proof.Machine.execAslAcc s
  | .aslZp zp => Sys2Proof.Machine.execAslZp zp s
  | .aslZpx zp => Sys2Proof.Machine.execAslZpx zp s
  | .aslAbs addr => Sys2Proof.Machine.execAslAbs addr s
  | .aslAbx base => Sys2Proof.Machine.execAslAbx base s
  | .lsrAcc => Sys2Proof.Machine.execLsrAcc s
  | .lsrZp zp => Sys2Proof.Machine.execLsrZp zp s
  | .lsrZpx zp => Sys2Proof.Machine.execLsrZpx zp s
  | .lsrAbs addr => Sys2Proof.Machine.execLsrAbs addr s
  | .lsrAbx base => Sys2Proof.Machine.execLsrAbx base s
  | .rolAcc => Sys2Proof.Machine.execRolAcc s
  | .rolZp zp => Sys2Proof.Machine.execRolZp zp s
  | .rolZpx zp => Sys2Proof.Machine.execRolZpx zp s
  | .rolAbs addr => Sys2Proof.Machine.execRolAbs addr s
  | .rolAbx base => Sys2Proof.Machine.execRolAbx base s
  | .rorAcc => Sys2Proof.Machine.execRorAcc s
  | .rorZp zp => Sys2Proof.Machine.execRorZp zp s
  | .rorZpx zp => Sys2Proof.Machine.execRorZpx zp s
  | .rorAbs addr => Sys2Proof.Machine.execRorAbs addr s
  | .rorAbx base => Sys2Proof.Machine.execRorAbx base s
  | .incZp zp => Sys2Proof.Machine.execIncZp zp s
  | .incZpx zp => Sys2Proof.Machine.execIncZpx zp s
  | .incAbs addr => Sys2Proof.Machine.execIncAbs addr s
  | .incAbx base => Sys2Proof.Machine.execIncAbx base s
  | .decZp zp => Sys2Proof.Machine.execDecZp zp s
  | .decZpx zp => Sys2Proof.Machine.execDecZpx zp s
  | .decAbs addr => Sys2Proof.Machine.execDecAbs addr s
  | .decAbx base => Sys2Proof.Machine.execDecAbx base s
  | .inx => Sys2Proof.Machine.execInx s
  | .iny => Sys2Proof.Machine.execIny s
  | .dex => Sys2Proof.Machine.execDex s
  | .dey => Sys2Proof.Machine.execDey s
  | .cmpImm v => Sys2Proof.Machine.execCmpImm v s
  | .cmpZp zp => Sys2Proof.Machine.execCmpZp zp s
  | .cmpZpx zp => Sys2Proof.Machine.execCmpZpx zp s
  | .cmpAbs addr => Sys2Proof.Machine.execCmpAbs addr s
  | .cmpAbx base => Sys2Proof.Machine.execCmpAbx base s
  | .cmpAby base => Sys2Proof.Machine.execCmpAby base s
  | .cmpIzx ptr => Sys2Proof.Machine.execCmpIzx ptr s
  | .cmpIzy ptr => Sys2Proof.Machine.execCmpIzy ptr s
  | .cpxImm v => Sys2Proof.Machine.execCpxImm v s
  | .cpxZp zp => Sys2Proof.Machine.execCpxZp zp s
  | .cpxAbs addr => Sys2Proof.Machine.execCpxAbs addr s
  | .cpyImm v => Sys2Proof.Machine.execCpyImm v s
  | .cpyZp zp => Sys2Proof.Machine.execCpyZp zp s
  | .cpyAbs addr => Sys2Proof.Machine.execCpyAbs addr s
  | .bitZp zp => Sys2Proof.Machine.execBitZp zp s
  | .bitAbs addr => Sys2Proof.Machine.execBitAbs addr s
  | .bpl offset => Sys2Proof.Machine.execBpl offset s
  | .bmi offset => Sys2Proof.Machine.execBmi offset s
  | .bvc offset => Sys2Proof.Machine.execBvc offset s
  | .bvs offset => Sys2Proof.Machine.execBvs offset s
  | .bcc offset => Sys2Proof.Machine.execBcc offset s
  | .bcs offset => Sys2Proof.Machine.execBcs offset s
  | .bne offset => Sys2Proof.Machine.execBne offset s
  | .beq offset => Sys2Proof.Machine.execBeq offset s
  | .jmpAbs target => Sys2Proof.Machine.execJmpAbs target s
  | .jmpInd ptr => Sys2Proof.Machine.execJmpInd ptr s
  | .jsr target => Sys2Proof.Machine.execJsr target s
  | .rts => Sys2Proof.Machine.execRts s
  | .rti => Sys2Proof.Machine.execRti s
  | .pha => Sys2Proof.Machine.execPha s
  | .php => Sys2Proof.Machine.execPhp s
  | .pla => Sys2Proof.Machine.execPla s
  | .plp => Sys2Proof.Machine.execPlp s
  | .tax => Sys2Proof.Machine.execTax s
  | .txa => Sys2Proof.Machine.execTxa s
  | .tay => Sys2Proof.Machine.execTay s
  | .tya => Sys2Proof.Machine.execTya s
  | .tsx => Sys2Proof.Machine.execTsx s
  | .txs => Sys2Proof.Machine.execTxs s
  | .clc => Sys2Proof.Machine.execClc s
  | .sec => Sys2Proof.Machine.execSec s
  | .cli => Sys2Proof.Machine.execCli s
  | .sei => Sys2Proof.Machine.execSei s
  | .clv => Sys2Proof.Machine.execClv s
  | .cld => Sys2Proof.Machine.execCld s
  | .sed => Sys2Proof.Machine.execSed s
  | .nop => Sys2Proof.Machine.execNop s
  | .brk => Sys2Proof.Machine.execBrk s
  | .undef02 => Sys2Proof.Machine.execUndef02 s
  | .undef03 => Sys2Proof.Machine.execUndef03 s
  | .undef04 => Sys2Proof.Machine.execUndef04 s
  | .undef07 => Sys2Proof.Machine.execUndef07 s
  | .undef0B => Sys2Proof.Machine.execUndef0B s
  | .undef0C => Sys2Proof.Machine.execUndef0C s
  | .undef0F => Sys2Proof.Machine.execUndef0F s
  | .undef12 => Sys2Proof.Machine.execUndef12 s
  | .undef13 => Sys2Proof.Machine.execUndef13 s
  | .undef14 => Sys2Proof.Machine.execUndef14 s
  | .undef17 => Sys2Proof.Machine.execUndef17 s
  | .undef1A => Sys2Proof.Machine.execUndef1A s
  | .undef1B => Sys2Proof.Machine.execUndef1B s
  | .undef1C => Sys2Proof.Machine.execUndef1C s
  | .undef1F => Sys2Proof.Machine.execUndef1F s
  | .undef22 => Sys2Proof.Machine.execUndef22 s
  | .undef23 => Sys2Proof.Machine.execUndef23 s
  | .undef27 => Sys2Proof.Machine.execUndef27 s
  | .undef2B => Sys2Proof.Machine.execUndef2B s
  | .undef2F => Sys2Proof.Machine.execUndef2F s
  | .undef32 => Sys2Proof.Machine.execUndef32 s
  | .undef33 => Sys2Proof.Machine.execUndef33 s
  | .undef34 => Sys2Proof.Machine.execUndef34 s
  | .undef37 => Sys2Proof.Machine.execUndef37 s
  | .undef3A => Sys2Proof.Machine.execUndef3A s
  | .undef3B => Sys2Proof.Machine.execUndef3B s
  | .undef3C => Sys2Proof.Machine.execUndef3C s
  | .undef3F => Sys2Proof.Machine.execUndef3F s
  | .undef42 => Sys2Proof.Machine.execUndef42 s
  | .undef43 => Sys2Proof.Machine.execUndef43 s
  | .undef44 => Sys2Proof.Machine.execUndef44 s
  | .undef47 => Sys2Proof.Machine.execUndef47 s
  | .undef4B => Sys2Proof.Machine.execUndef4B s
  | .undef4F => Sys2Proof.Machine.execUndef4F s
  | .undef52 => Sys2Proof.Machine.execUndef52 s
  | .undef53 => Sys2Proof.Machine.execUndef53 s
  | .undef54 => Sys2Proof.Machine.execUndef54 s
  | .undef57 => Sys2Proof.Machine.execUndef57 s
  | .undef5A => Sys2Proof.Machine.execUndef5A s
  | .undef5B => Sys2Proof.Machine.execUndef5B s
  | .undef5C => Sys2Proof.Machine.execUndef5C s
  | .undef5F => Sys2Proof.Machine.execUndef5F s
  | .undef62 => Sys2Proof.Machine.execUndef62 s
  | .undef63 => Sys2Proof.Machine.execUndef63 s
  | .undef64 => Sys2Proof.Machine.execUndef64 s
  | .undef67 => Sys2Proof.Machine.execUndef67 s
  | .undef6B => Sys2Proof.Machine.execUndef6B s
  | .undef6F => Sys2Proof.Machine.execUndef6F s
  | .undef72 => Sys2Proof.Machine.execUndef72 s
  | .undef73 => Sys2Proof.Machine.execUndef73 s
  | .undef74 => Sys2Proof.Machine.execUndef74 s
  | .undef77 => Sys2Proof.Machine.execUndef77 s
  | .undef7A => Sys2Proof.Machine.execUndef7A s
  | .undef7B => Sys2Proof.Machine.execUndef7B s
  | .undef7C => Sys2Proof.Machine.execUndef7C s
  | .undef7F => Sys2Proof.Machine.execUndef7F s
  | .undef80 => Sys2Proof.Machine.execUndef80 s
  | .undef82 => Sys2Proof.Machine.execUndef82 s
  | .undef83 => Sys2Proof.Machine.execUndef83 s
  | .undef87 => Sys2Proof.Machine.execUndef87 s
  | .undef89 => Sys2Proof.Machine.execUndef89 s
  | .undef8B => Sys2Proof.Machine.execUndef8B s
  | .undef8F => Sys2Proof.Machine.execUndef8F s
  | .undef92 => Sys2Proof.Machine.execUndef92 s
  | .undef93 => Sys2Proof.Machine.execUndef93 s
  | .undef97 => Sys2Proof.Machine.execUndef97 s
  | .undef9B => Sys2Proof.Machine.execUndef9B s
  | .undef9C => Sys2Proof.Machine.execUndef9C s
  | .undef9E => Sys2Proof.Machine.execUndef9E s
  | .undef9F => Sys2Proof.Machine.execUndef9F s
  | .undefA3 => Sys2Proof.Machine.execUndefA3 s
  | .undefA7 => Sys2Proof.Machine.execUndefA7 s
  | .undefAB => Sys2Proof.Machine.execUndefAB s
  | .undefAF => Sys2Proof.Machine.execUndefAF s
  | .undefB2 => Sys2Proof.Machine.execUndefB2 s
  | .undefB3 => Sys2Proof.Machine.execUndefB3 s
  | .undefB7 => Sys2Proof.Machine.execUndefB7 s
  | .undefBB => Sys2Proof.Machine.execUndefBB s
  | .undefBF => Sys2Proof.Machine.execUndefBF s
  | .undefC2 => Sys2Proof.Machine.execUndefC2 s
  | .undefC3 => Sys2Proof.Machine.execUndefC3 s
  | .undefC7 => Sys2Proof.Machine.execUndefC7 s
  | .undefCB => Sys2Proof.Machine.execUndefCB s
  | .undefCF => Sys2Proof.Machine.execUndefCF s
  | .undefD2 => Sys2Proof.Machine.execUndefD2 s
  | .undefD3 => Sys2Proof.Machine.execUndefD3 s
  | .undefD4 => Sys2Proof.Machine.execUndefD4 s
  | .undefD7 => Sys2Proof.Machine.execUndefD7 s
  | .undefDA => Sys2Proof.Machine.execUndefDA s
  | .undefDB => Sys2Proof.Machine.execUndefDB s
  | .undefDC => Sys2Proof.Machine.execUndefDC s
  | .undefDF => Sys2Proof.Machine.execUndefDF s
  | .undefE2 => Sys2Proof.Machine.execUndefE2 s
  | .undefE3 => Sys2Proof.Machine.execUndefE3 s
  | .undefE7 => Sys2Proof.Machine.execUndefE7 s
  | .undefEB => Sys2Proof.Machine.execUndefEB s
  | .undefEF => Sys2Proof.Machine.execUndefEF s
  | .undefF2 => Sys2Proof.Machine.execUndefF2 s
  | .undefF3 => Sys2Proof.Machine.execUndefF3 s
  | .undefF4 => Sys2Proof.Machine.execUndefF4 s
  | .undefF7 => Sys2Proof.Machine.execUndefF7 s
  | .undefFA => Sys2Proof.Machine.execUndefFA s
  | .undefFB => Sys2Proof.Machine.execUndefFB s
  | .undefFC => Sys2Proof.Machine.execUndefFC s
  | .undefFF => Sys2Proof.Machine.execUndefFF s

end Sys2Proof.Machine
end

