-- ==== Sys2Proof/Decode.lean ====
section
/-! DEFINITION. The decoder, total on any bytes (30_encoding.md R87), and the encoder (30_encoding.md R80, R81, R90).
The decoder reads the 16 by 16 matrix of R91 and the encoder the table of R90. The opcode bytes are the spec's
decision D1 (PRESUMED, log entry 8). -/

namespace Sys2Proof

/-- What an opcode byte selects: an instruction of one byte, or one that still needs its operand byte or its
operand word (formats F1, F2 and F3 of 30_encoding.md R81). -/
inductive Shape where
  | f1 (i : Instr)
  | f2 (make : Byte → Instr)
  | f3 (make : Word → Instr)

/-- Why bytes do not decode. -/
inductive DecodeError where
  /-- The opcode byte is left out of `OPSET` (30_encoding.md R87: UNDEFINED). -/
  | notInOpset (op : Byte)
  /-- The bytes end before the instruction does. -/
  | truncated
deriving DecidableEq, Repr

/-! The sixteen rows of the matrix of 30_encoding.md R91, column x0 first. -/

def matrixRow0 : List Shape :=
  [.f1 .brk, .f2 .oraIzx, .f1 .undef02, .f1 .undef03, .f1 .undef04, .f2 .oraZp, .f2 .aslZp, .f1 .undef07,
   .f1 .php, .f2 .oraImm, .f1 .aslAcc, .f1 .undef0B, .f1 .undef0C, .f3 .oraAbs, .f3 .aslAbs, .f1 .undef0F]

def matrixRow1 : List Shape :=
  [.f2 .bpl, .f2 .oraIzy, .f1 .undef12, .f1 .undef13, .f1 .undef14, .f2 .oraZpx, .f2 .aslZpx, .f1 .undef17,
   .f1 .clc, .f3 .oraAby, .f1 .undef1A, .f1 .undef1B, .f1 .undef1C, .f3 .oraAbx, .f3 .aslAbx, .f1 .undef1F]

def matrixRow2 : List Shape :=
  [.f3 .jsr, .f2 .andIzx, .f1 .undef22, .f1 .undef23, .f2 .bitZp, .f2 .andZp, .f2 .rolZp, .f1 .undef27,
   .f1 .plp, .f2 .andImm, .f1 .rolAcc, .f1 .undef2B, .f3 .bitAbs, .f3 .andAbs, .f3 .rolAbs, .f1 .undef2F]

def matrixRow3 : List Shape :=
  [.f2 .bmi, .f2 .andIzy, .f1 .undef32, .f1 .undef33, .f1 .undef34, .f2 .andZpx, .f2 .rolZpx, .f1 .undef37,
   .f1 .sec, .f3 .andAby, .f1 .undef3A, .f1 .undef3B, .f1 .undef3C, .f3 .andAbx, .f3 .rolAbx, .f1 .undef3F]

def matrixRow4 : List Shape :=
  [.f1 .rti, .f2 .eorIzx, .f1 .undef42, .f1 .undef43, .f1 .undef44, .f2 .eorZp, .f2 .lsrZp, .f1 .undef47,
   .f1 .pha, .f2 .eorImm, .f1 .lsrAcc, .f1 .undef4B, .f3 .jmpAbs, .f3 .eorAbs, .f3 .lsrAbs, .f1 .undef4F]

def matrixRow5 : List Shape :=
  [.f2 .bvc, .f2 .eorIzy, .f1 .undef52, .f1 .undef53, .f1 .undef54, .f2 .eorZpx, .f2 .lsrZpx, .f1 .undef57,
   .f1 .cli, .f3 .eorAby, .f1 .undef5A, .f1 .undef5B, .f1 .undef5C, .f3 .eorAbx, .f3 .lsrAbx, .f1 .undef5F]

def matrixRow6 : List Shape :=
  [.f1 .rts, .f2 .adcIzx, .f1 .undef62, .f1 .undef63, .f1 .undef64, .f2 .adcZp, .f2 .rorZp, .f1 .undef67,
   .f1 .pla, .f2 .adcImm, .f1 .rorAcc, .f1 .undef6B, .f3 .jmpInd, .f3 .adcAbs, .f3 .rorAbs, .f1 .undef6F]

def matrixRow7 : List Shape :=
  [.f2 .bvs, .f2 .adcIzy, .f1 .undef72, .f1 .undef73, .f1 .undef74, .f2 .adcZpx, .f2 .rorZpx, .f1 .undef77,
   .f1 .sei, .f3 .adcAby, .f1 .undef7A, .f1 .undef7B, .f1 .undef7C, .f3 .adcAbx, .f3 .rorAbx, .f1 .undef7F]

def matrixRow8 : List Shape :=
  [.f1 .undef80, .f2 .staIzx, .f1 .undef82, .f1 .undef83, .f2 .styZp, .f2 .staZp, .f2 .stxZp, .f1 .undef87,
   .f1 .dey, .f1 .undef89, .f1 .txa, .f1 .undef8B, .f3 .styAbs, .f3 .staAbs, .f3 .stxAbs, .f1 .undef8F]

def matrixRow9 : List Shape :=
  [.f2 .bcc, .f2 .staIzy, .f1 .undef92, .f1 .undef93, .f2 .styZpx, .f2 .staZpx, .f2 .stxZpy, .f1 .undef97,
   .f1 .tya, .f3 .staAby, .f1 .txs, .f1 .undef9B, .f1 .undef9C, .f3 .staAbx, .f1 .undef9E, .f1 .undef9F]

def matrixRowA : List Shape :=
  [.f2 .ldyImm, .f2 .ldaIzx, .f2 .ldxImm, .f1 .undefA3, .f2 .ldyZp, .f2 .ldaZp, .f2 .ldxZp, .f1 .undefA7,
   .f1 .tay, .f2 .ldaImm, .f1 .tax, .f1 .undefAB, .f3 .ldyAbs, .f3 .ldaAbs, .f3 .ldxAbs, .f1 .undefAF]

def matrixRowB : List Shape :=
  [.f2 .bcs, .f2 .ldaIzy, .f1 .undefB2, .f1 .undefB3, .f2 .ldyZpx, .f2 .ldaZpx, .f2 .ldxZpy, .f1 .undefB7,
   .f1 .clv, .f3 .ldaAby, .f1 .tsx, .f1 .undefBB, .f3 .ldyAbx, .f3 .ldaAbx, .f3 .ldxAby, .f1 .undefBF]

def matrixRowC : List Shape :=
  [.f2 .cpyImm, .f2 .cmpIzx, .f1 .undefC2, .f1 .undefC3, .f2 .cpyZp, .f2 .cmpZp, .f2 .decZp, .f1 .undefC7,
   .f1 .iny, .f2 .cmpImm, .f1 .dex, .f1 .undefCB, .f3 .cpyAbs, .f3 .cmpAbs, .f3 .decAbs, .f1 .undefCF]

def matrixRowD : List Shape :=
  [.f2 .bne, .f2 .cmpIzy, .f1 .undefD2, .f1 .undefD3, .f1 .undefD4, .f2 .cmpZpx, .f2 .decZpx, .f1 .undefD7,
   .f1 .cld, .f3 .cmpAby, .f1 .undefDA, .f1 .undefDB, .f1 .undefDC, .f3 .cmpAbx, .f3 .decAbx, .f1 .undefDF]

def matrixRowE : List Shape :=
  [.f2 .cpxImm, .f2 .sbcIzx, .f1 .undefE2, .f1 .undefE3, .f2 .cpxZp, .f2 .sbcZp, .f2 .incZp, .f1 .undefE7,
   .f1 .inx, .f2 .sbcImm, .f1 .nop, .f1 .undefEB, .f3 .cpxAbs, .f3 .sbcAbs, .f3 .incAbs, .f1 .undefEF]

def matrixRowF : List Shape :=
  [.f2 .beq, .f2 .sbcIzy, .f1 .undefF2, .f1 .undefF3, .f1 .undefF4, .f2 .sbcZpx, .f2 .incZpx, .f1 .undefF7,
   .f1 .sed, .f3 .sbcAby, .f1 .undefFA, .f1 .undefFB, .f1 .undefFC, .f3 .sbcAbx, .f3 .incAbx, .f1 .undefFF]

/-- The opcode matrix of 30_encoding.md R91, row = high nibble. -/
def opcodeMatrix : List (List Shape) :=
  [matrixRow0, matrixRow1, matrixRow2, matrixRow3, matrixRow4, matrixRow5, matrixRow6, matrixRow7,
   matrixRow8, matrixRow9, matrixRowA, matrixRowB, matrixRowC, matrixRowD, matrixRowE, matrixRowF]

/-- The cell of the matrix that an opcode byte selects. Every byte has a cell; the two defaults are never used. -/
def shapeOf (op : Byte) : Shape :=
  (opcodeMatrix.getD (op.toNat / 16) []).getD (op.toNat % 16) (.f1 .nop)

/-- `decode(op)` (30_encoding.md R87): the matrix cell, or UNDEFINED by name for a byte outside `OPSET`. -/
def decodeOpcode (c : Params) (op : Byte) : Except DecodeError Shape :=
  if c.omits op then .error (.notInOpset op) else .ok (shapeOf op)

/-- The instruction at the head of a byte list, and the bytes after it (30_encoding.md R80, R81, R85, R87): the
16-bit operand is low byte first. -/
def decode (c : Params) : List Byte → Except DecodeError (Instr × List Byte)
  | [] => .error .truncated
  | op :: rest =>
    match decodeOpcode c op with
    | .error e => .error e
    | .ok (.f1 i) => .ok (i, rest)
    | .ok (.f2 make) =>
      match rest with
      | b1 :: after => .ok (make b1, after)
      | [] => .error .truncated
    | .ok (.f3 make) =>
      match rest with
      | b1 :: b2 :: after => .ok (make (Machine.wordOf b2 b1), after)
      | _ => .error .truncated

/-- Format F3's three bytes: the opcode, then the operand word low byte first (30_encoding.md R81). -/
def encodeWord (op : Byte) (w : Word) : List Byte :=
  [op, Machine.lowByte w, Machine.highByte w]

/-- The bytes of an instruction, from the table of 30_encoding.md R90. -/
def encode : Instr → List Byte
  | .ldaImm v => [0xA9#8, v]
  | .ldaZp zp => [0xA5#8, zp]
  | .ldaZpx zp => [0xB5#8, zp]
  | .ldaAbs addr => encodeWord 0xAD#8 addr
  | .ldaAbx base => encodeWord 0xBD#8 base
  | .ldaAby base => encodeWord 0xB9#8 base
  | .ldaIzx ptr => [0xA1#8, ptr]
  | .ldaIzy ptr => [0xB1#8, ptr]
  | .ldxImm v => [0xA2#8, v]
  | .ldxZp zp => [0xA6#8, zp]
  | .ldxZpy zp => [0xB6#8, zp]
  | .ldxAbs addr => encodeWord 0xAE#8 addr
  | .ldxAby base => encodeWord 0xBE#8 base
  | .ldyImm v => [0xA0#8, v]
  | .ldyZp zp => [0xA4#8, zp]
  | .ldyZpx zp => [0xB4#8, zp]
  | .ldyAbs addr => encodeWord 0xAC#8 addr
  | .ldyAbx base => encodeWord 0xBC#8 base
  | .staZp zp => [0x85#8, zp]
  | .staZpx zp => [0x95#8, zp]
  | .staAbs addr => encodeWord 0x8D#8 addr
  | .staAbx base => encodeWord 0x9D#8 base
  | .staAby base => encodeWord 0x99#8 base
  | .staIzx ptr => [0x81#8, ptr]
  | .staIzy ptr => [0x91#8, ptr]
  | .stxZp zp => [0x86#8, zp]
  | .stxZpy zp => [0x96#8, zp]
  | .stxAbs addr => encodeWord 0x8E#8 addr
  | .styZp zp => [0x84#8, zp]
  | .styZpx zp => [0x94#8, zp]
  | .styAbs addr => encodeWord 0x8C#8 addr
  | .adcImm v => [0x69#8, v]
  | .adcZp zp => [0x65#8, zp]
  | .adcZpx zp => [0x75#8, zp]
  | .adcAbs addr => encodeWord 0x6D#8 addr
  | .adcAbx base => encodeWord 0x7D#8 base
  | .adcAby base => encodeWord 0x79#8 base
  | .adcIzx ptr => [0x61#8, ptr]
  | .adcIzy ptr => [0x71#8, ptr]
  | .sbcImm v => [0xE9#8, v]
  | .sbcZp zp => [0xE5#8, zp]
  | .sbcZpx zp => [0xF5#8, zp]
  | .sbcAbs addr => encodeWord 0xED#8 addr
  | .sbcAbx base => encodeWord 0xFD#8 base
  | .sbcAby base => encodeWord 0xF9#8 base
  | .sbcIzx ptr => [0xE1#8, ptr]
  | .sbcIzy ptr => [0xF1#8, ptr]
  | .andImm v => [0x29#8, v]
  | .andZp zp => [0x25#8, zp]
  | .andZpx zp => [0x35#8, zp]
  | .andAbs addr => encodeWord 0x2D#8 addr
  | .andAbx base => encodeWord 0x3D#8 base
  | .andAby base => encodeWord 0x39#8 base
  | .andIzx ptr => [0x21#8, ptr]
  | .andIzy ptr => [0x31#8, ptr]
  | .oraImm v => [0x09#8, v]
  | .oraZp zp => [0x05#8, zp]
  | .oraZpx zp => [0x15#8, zp]
  | .oraAbs addr => encodeWord 0x0D#8 addr
  | .oraAbx base => encodeWord 0x1D#8 base
  | .oraAby base => encodeWord 0x19#8 base
  | .oraIzx ptr => [0x01#8, ptr]
  | .oraIzy ptr => [0x11#8, ptr]
  | .eorImm v => [0x49#8, v]
  | .eorZp zp => [0x45#8, zp]
  | .eorZpx zp => [0x55#8, zp]
  | .eorAbs addr => encodeWord 0x4D#8 addr
  | .eorAbx base => encodeWord 0x5D#8 base
  | .eorAby base => encodeWord 0x59#8 base
  | .eorIzx ptr => [0x41#8, ptr]
  | .eorIzy ptr => [0x51#8, ptr]
  | .aslAcc => [0x0A#8]
  | .aslZp zp => [0x06#8, zp]
  | .aslZpx zp => [0x16#8, zp]
  | .aslAbs addr => encodeWord 0x0E#8 addr
  | .aslAbx base => encodeWord 0x1E#8 base
  | .lsrAcc => [0x4A#8]
  | .lsrZp zp => [0x46#8, zp]
  | .lsrZpx zp => [0x56#8, zp]
  | .lsrAbs addr => encodeWord 0x4E#8 addr
  | .lsrAbx base => encodeWord 0x5E#8 base
  | .rolAcc => [0x2A#8]
  | .rolZp zp => [0x26#8, zp]
  | .rolZpx zp => [0x36#8, zp]
  | .rolAbs addr => encodeWord 0x2E#8 addr
  | .rolAbx base => encodeWord 0x3E#8 base
  | .rorAcc => [0x6A#8]
  | .rorZp zp => [0x66#8, zp]
  | .rorZpx zp => [0x76#8, zp]
  | .rorAbs addr => encodeWord 0x6E#8 addr
  | .rorAbx base => encodeWord 0x7E#8 base
  | .incZp zp => [0xE6#8, zp]
  | .incZpx zp => [0xF6#8, zp]
  | .incAbs addr => encodeWord 0xEE#8 addr
  | .incAbx base => encodeWord 0xFE#8 base
  | .decZp zp => [0xC6#8, zp]
  | .decZpx zp => [0xD6#8, zp]
  | .decAbs addr => encodeWord 0xCE#8 addr
  | .decAbx base => encodeWord 0xDE#8 base
  | .inx => [0xE8#8]
  | .iny => [0xC8#8]
  | .dex => [0xCA#8]
  | .dey => [0x88#8]
  | .cmpImm v => [0xC9#8, v]
  | .cmpZp zp => [0xC5#8, zp]
  | .cmpZpx zp => [0xD5#8, zp]
  | .cmpAbs addr => encodeWord 0xCD#8 addr
  | .cmpAbx base => encodeWord 0xDD#8 base
  | .cmpAby base => encodeWord 0xD9#8 base
  | .cmpIzx ptr => [0xC1#8, ptr]
  | .cmpIzy ptr => [0xD1#8, ptr]
  | .cpxImm v => [0xE0#8, v]
  | .cpxZp zp => [0xE4#8, zp]
  | .cpxAbs addr => encodeWord 0xEC#8 addr
  | .cpyImm v => [0xC0#8, v]
  | .cpyZp zp => [0xC4#8, zp]
  | .cpyAbs addr => encodeWord 0xCC#8 addr
  | .bitZp zp => [0x24#8, zp]
  | .bitAbs addr => encodeWord 0x2C#8 addr
  | .bpl offset => [0x10#8, offset]
  | .bmi offset => [0x30#8, offset]
  | .bvc offset => [0x50#8, offset]
  | .bvs offset => [0x70#8, offset]
  | .bcc offset => [0x90#8, offset]
  | .bcs offset => [0xB0#8, offset]
  | .bne offset => [0xD0#8, offset]
  | .beq offset => [0xF0#8, offset]
  | .jmpAbs target => encodeWord 0x4C#8 target
  | .jmpInd ptr => encodeWord 0x6C#8 ptr
  | .jsr target => encodeWord 0x20#8 target
  | .rts => [0x60#8]
  | .rti => [0x40#8]
  | .pha => [0x48#8]
  | .php => [0x08#8]
  | .pla => [0x68#8]
  | .plp => [0x28#8]
  | .tax => [0xAA#8]
  | .txa => [0x8A#8]
  | .tay => [0xA8#8]
  | .tya => [0x98#8]
  | .tsx => [0xBA#8]
  | .txs => [0x9A#8]
  | .clc => [0x18#8]
  | .sec => [0x38#8]
  | .cli => [0x58#8]
  | .sei => [0x78#8]
  | .clv => [0xB8#8]
  | .cld => [0xD8#8]
  | .sed => [0xF8#8]
  | .nop => [0xEA#8]
  | .brk => [0x00#8]
  | .undef02 => [0x02#8]
  | .undef03 => [0x03#8]
  | .undef04 => [0x04#8]
  | .undef07 => [0x07#8]
  | .undef0B => [0x0B#8]
  | .undef0C => [0x0C#8]
  | .undef0F => [0x0F#8]
  | .undef12 => [0x12#8]
  | .undef13 => [0x13#8]
  | .undef14 => [0x14#8]
  | .undef17 => [0x17#8]
  | .undef1A => [0x1A#8]
  | .undef1B => [0x1B#8]
  | .undef1C => [0x1C#8]
  | .undef1F => [0x1F#8]
  | .undef22 => [0x22#8]
  | .undef23 => [0x23#8]
  | .undef27 => [0x27#8]
  | .undef2B => [0x2B#8]
  | .undef2F => [0x2F#8]
  | .undef32 => [0x32#8]
  | .undef33 => [0x33#8]
  | .undef34 => [0x34#8]
  | .undef37 => [0x37#8]
  | .undef3A => [0x3A#8]
  | .undef3B => [0x3B#8]
  | .undef3C => [0x3C#8]
  | .undef3F => [0x3F#8]
  | .undef42 => [0x42#8]
  | .undef43 => [0x43#8]
  | .undef44 => [0x44#8]
  | .undef47 => [0x47#8]
  | .undef4B => [0x4B#8]
  | .undef4F => [0x4F#8]
  | .undef52 => [0x52#8]
  | .undef53 => [0x53#8]
  | .undef54 => [0x54#8]
  | .undef57 => [0x57#8]
  | .undef5A => [0x5A#8]
  | .undef5B => [0x5B#8]
  | .undef5C => [0x5C#8]
  | .undef5F => [0x5F#8]
  | .undef62 => [0x62#8]
  | .undef63 => [0x63#8]
  | .undef64 => [0x64#8]
  | .undef67 => [0x67#8]
  | .undef6B => [0x6B#8]
  | .undef6F => [0x6F#8]
  | .undef72 => [0x72#8]
  | .undef73 => [0x73#8]
  | .undef74 => [0x74#8]
  | .undef77 => [0x77#8]
  | .undef7A => [0x7A#8]
  | .undef7B => [0x7B#8]
  | .undef7C => [0x7C#8]
  | .undef7F => [0x7F#8]
  | .undef80 => [0x80#8]
  | .undef82 => [0x82#8]
  | .undef83 => [0x83#8]
  | .undef87 => [0x87#8]
  | .undef89 => [0x89#8]
  | .undef8B => [0x8B#8]
  | .undef8F => [0x8F#8]
  | .undef92 => [0x92#8]
  | .undef93 => [0x93#8]
  | .undef97 => [0x97#8]
  | .undef9B => [0x9B#8]
  | .undef9C => [0x9C#8]
  | .undef9E => [0x9E#8]
  | .undef9F => [0x9F#8]
  | .undefA3 => [0xA3#8]
  | .undefA7 => [0xA7#8]
  | .undefAB => [0xAB#8]
  | .undefAF => [0xAF#8]
  | .undefB2 => [0xB2#8]
  | .undefB3 => [0xB3#8]
  | .undefB7 => [0xB7#8]
  | .undefBB => [0xBB#8]
  | .undefBF => [0xBF#8]
  | .undefC2 => [0xC2#8]
  | .undefC3 => [0xC3#8]
  | .undefC7 => [0xC7#8]
  | .undefCB => [0xCB#8]
  | .undefCF => [0xCF#8]
  | .undefD2 => [0xD2#8]
  | .undefD3 => [0xD3#8]
  | .undefD4 => [0xD4#8]
  | .undefD7 => [0xD7#8]
  | .undefDA => [0xDA#8]
  | .undefDB => [0xDB#8]
  | .undefDC => [0xDC#8]
  | .undefDF => [0xDF#8]
  | .undefE2 => [0xE2#8]
  | .undefE3 => [0xE3#8]
  | .undefE7 => [0xE7#8]
  | .undefEB => [0xEB#8]
  | .undefEF => [0xEF#8]
  | .undefF2 => [0xF2#8]
  | .undefF3 => [0xF3#8]
  | .undefF4 => [0xF4#8]
  | .undefF7 => [0xF7#8]
  | .undefFA => [0xFA#8]
  | .undefFB => [0xFB#8]
  | .undefFC => [0xFC#8]
  | .undefFF => [0xFF#8]

/-- The opcode byte of an instruction (30_encoding.md R90). -/
def Instr.opcode (i : Instr) : Byte :=
  (encode i).headD 0x00#8

/-- The length of an instruction in bytes: 1, 2 or 3 (30_encoding.md R81). -/
def Instr.length (i : Instr) : Nat :=
  (encode i).length

/-- The mnemonic of an instruction; none for an undefined opcode byte (30_encoding.md R90, R92). -/
def Instr.mnemonic : Instr → Option Mnemonic
  | .ldaImm _ | .ldaZp _ | .ldaZpx _ | .ldaAbs _ | .ldaAbx _ | .ldaAby _ | .ldaIzx _ | .ldaIzy _ => some .lda
  | .ldxImm _ | .ldxZp _ | .ldxZpy _ | .ldxAbs _ | .ldxAby _ => some .ldx
  | .ldyImm _ | .ldyZp _ | .ldyZpx _ | .ldyAbs _ | .ldyAbx _ => some .ldy
  | .staZp _ | .staZpx _ | .staAbs _ | .staAbx _ | .staAby _ | .staIzx _ | .staIzy _ => some .sta
  | .stxZp _ | .stxZpy _ | .stxAbs _ => some .stx
  | .styZp _ | .styZpx _ | .styAbs _ => some .sty
  | .adcImm _ | .adcZp _ | .adcZpx _ | .adcAbs _ | .adcAbx _ | .adcAby _ | .adcIzx _ | .adcIzy _ => some .adc
  | .sbcImm _ | .sbcZp _ | .sbcZpx _ | .sbcAbs _ | .sbcAbx _ | .sbcAby _ | .sbcIzx _ | .sbcIzy _ => some .sbc
  | .andImm _ | .andZp _ | .andZpx _ | .andAbs _ | .andAbx _ | .andAby _ | .andIzx _ | .andIzy _ => some .and
  | .oraImm _ | .oraZp _ | .oraZpx _ | .oraAbs _ | .oraAbx _ | .oraAby _ | .oraIzx _ | .oraIzy _ => some .ora
  | .eorImm _ | .eorZp _ | .eorZpx _ | .eorAbs _ | .eorAbx _ | .eorAby _ | .eorIzx _ | .eorIzy _ => some .eor
  | .aslAcc | .aslZp _ | .aslZpx _ | .aslAbs _ | .aslAbx _ => some .asl
  | .lsrAcc | .lsrZp _ | .lsrZpx _ | .lsrAbs _ | .lsrAbx _ => some .lsr
  | .rolAcc | .rolZp _ | .rolZpx _ | .rolAbs _ | .rolAbx _ => some .rol
  | .rorAcc | .rorZp _ | .rorZpx _ | .rorAbs _ | .rorAbx _ => some .ror
  | .incZp _ | .incZpx _ | .incAbs _ | .incAbx _ => some .inc
  | .decZp _ | .decZpx _ | .decAbs _ | .decAbx _ => some .dec
  | .inx => some .inx
  | .iny => some .iny
  | .dex => some .dex
  | .dey => some .dey
  | .cmpImm _ | .cmpZp _ | .cmpZpx _ | .cmpAbs _ | .cmpAbx _ | .cmpAby _ | .cmpIzx _ | .cmpIzy _ => some .cmp
  | .cpxImm _ | .cpxZp _ | .cpxAbs _ => some .cpx
  | .cpyImm _ | .cpyZp _ | .cpyAbs _ => some .cpy
  | .bitZp _ | .bitAbs _ => some .bit
  | .bpl _ => some .bpl
  | .bmi _ => some .bmi
  | .bvc _ => some .bvc
  | .bvs _ => some .bvs
  | .bcc _ => some .bcc
  | .bcs _ => some .bcs
  | .bne _ => some .bne
  | .beq _ => some .beq
  | .jmpAbs _ | .jmpInd _ => some .jmp
  | .jsr _ => some .jsr
  | .rts => some .rts
  | .rti => some .rti
  | .pha => some .pha
  | .php => some .php
  | .pla => some .pla
  | .plp => some .plp
  | .tax => some .tax
  | .txa => some .txa
  | .tay => some .tay
  | .tya => some .tya
  | .tsx => some .tsx
  | .txs => some .txs
  | .clc => some .clc
  | .sec => some .sec
  | .cli => some .cli
  | .sei => some .sei
  | .clv => some .clv
  | .cld => some .cld
  | .sed => some .sed
  | .nop => some .nop
  | .brk => some .brk
  | .undef02 | .undef03 | .undef04 | .undef07 | .undef0B | .undef0C | .undef0F | .undef12 | .undef13 | .undef14
  | .undef17 | .undef1A | .undef1B | .undef1C | .undef1F | .undef22 | .undef23 | .undef27 | .undef2B | .undef2F
  | .undef32 | .undef33 | .undef34 | .undef37 | .undef3A | .undef3B | .undef3C | .undef3F | .undef42 | .undef43
  | .undef44 | .undef47 | .undef4B | .undef4F | .undef52 | .undef53 | .undef54 | .undef57 | .undef5A | .undef5B
  | .undef5C | .undef5F | .undef62 | .undef63 | .undef64 | .undef67 | .undef6B | .undef6F | .undef72 | .undef73
  | .undef74 | .undef77 | .undef7A | .undef7B | .undef7C | .undef7F | .undef80 | .undef82 | .undef83 | .undef87
  | .undef89 | .undef8B | .undef8F | .undef92 | .undef93 | .undef97 | .undef9B | .undef9C | .undef9E | .undef9F
  | .undefA3 | .undefA7 | .undefAB | .undefAF | .undefB2 | .undefB3 | .undefB7 | .undefBB | .undefBF | .undefC2
  | .undefC3 | .undefC7 | .undefCB | .undefCF | .undefD2 | .undefD3 | .undefD4 | .undefD7 | .undefDA | .undefDB
  | .undefDC | .undefDF | .undefE2 | .undefE3 | .undefE7 | .undefEB | .undefEF | .undefF2 | .undefF3 | .undefF4
  | .undefF7 | .undefFA | .undefFB | .undefFC | .undefFF => none

/-- The addressing mode of an instruction; an undefined opcode byte is a one-byte instruction, as in the table
(30_encoding.md R90, R92). -/
def Instr.mode : Instr → Mode
  | .ldaImm _ | .ldxImm _ | .ldyImm _ | .adcImm _ | .sbcImm _ | .andImm _ | .oraImm _ | .eorImm _ | .cmpImm _
  | .cpxImm _ | .cpyImm _ => .immediate
  | .aslAcc | .lsrAcc | .rolAcc | .rorAcc => .accumulator
  | .ldaZp _ | .ldxZp _ | .ldyZp _ | .staZp _ | .stxZp _ | .styZp _ | .adcZp _ | .sbcZp _ | .andZp _ | .oraZp _
  | .eorZp _ | .aslZp _ | .lsrZp _ | .rolZp _ | .rorZp _ | .incZp _ | .decZp _ | .cmpZp _ | .cpxZp _ | .cpyZp _
  | .bitZp _ => .zeroPage
  | .ldaZpx _ | .ldyZpx _ | .staZpx _ | .styZpx _ | .adcZpx _ | .sbcZpx _ | .andZpx _ | .oraZpx _ | .eorZpx _
  | .aslZpx _ | .lsrZpx _ | .rolZpx _ | .rorZpx _ | .incZpx _ | .decZpx _ | .cmpZpx _ => .zeroPageX
  | .ldxZpy _ | .stxZpy _ => .zeroPageY
  | .ldaAbs _ | .ldxAbs _ | .ldyAbs _ | .staAbs _ | .stxAbs _ | .styAbs _ | .adcAbs _ | .sbcAbs _ | .andAbs _
  | .oraAbs _ | .eorAbs _ | .aslAbs _ | .lsrAbs _ | .rolAbs _ | .rorAbs _ | .incAbs _ | .decAbs _ | .cmpAbs _
  | .cpxAbs _ | .cpyAbs _ | .bitAbs _ | .jmpAbs _ | .jsr _ => .absolute
  | .ldaAbx _ | .ldyAbx _ | .staAbx _ | .adcAbx _ | .sbcAbx _ | .andAbx _ | .oraAbx _ | .eorAbx _ | .aslAbx _
  | .lsrAbx _ | .rolAbx _ | .rorAbx _ | .incAbx _ | .decAbx _ | .cmpAbx _ => .absoluteX
  | .ldaAby _ | .ldxAby _ | .staAby _ | .adcAby _ | .sbcAby _ | .andAby _ | .oraAby _ | .eorAby _ | .cmpAby _ => .absoluteY
  | .ldaIzx _ | .staIzx _ | .adcIzx _ | .sbcIzx _ | .andIzx _ | .oraIzx _ | .eorIzx _ | .cmpIzx _ => .indirectX
  | .ldaIzy _ | .staIzy _ | .adcIzy _ | .sbcIzy _ | .andIzy _ | .oraIzy _ | .eorIzy _ | .cmpIzy _ => .indirectY
  | .jmpInd _ => .indirect
  | .bpl _ | .bmi _ | .bvc _ | .bvs _ | .bcc _ | .bcs _ | .bne _ | .beq _ => .relative
  | .inx | .iny | .dex | .dey | .rts | .rti | .pha | .php | .pla | .plp | .tax | .txa | .tay | .tya | .tsx
  | .txs | .clc | .sec | .cli | .sei | .clv | .cld | .sed | .nop | .brk | .undef02 | .undef03 | .undef04
  | .undef07 | .undef0B | .undef0C | .undef0F | .undef12 | .undef13 | .undef14 | .undef17 | .undef1A | .undef1B
  | .undef1C | .undef1F | .undef22 | .undef23 | .undef27 | .undef2B | .undef2F | .undef32 | .undef33 | .undef34
  | .undef37 | .undef3A | .undef3B | .undef3C | .undef3F | .undef42 | .undef43 | .undef44 | .undef47 | .undef4B
  | .undef4F | .undef52 | .undef53 | .undef54 | .undef57 | .undef5A | .undef5B | .undef5C | .undef5F | .undef62
  | .undef63 | .undef64 | .undef67 | .undef6B | .undef6F | .undef72 | .undef73 | .undef74 | .undef77 | .undef7A
  | .undef7B | .undef7C | .undef7F | .undef80 | .undef82 | .undef83 | .undef87 | .undef89 | .undef8B | .undef8F
  | .undef92 | .undef93 | .undef97 | .undef9B | .undef9C | .undef9E | .undef9F | .undefA3 | .undefA7 | .undefAB
  | .undefAF | .undefB2 | .undefB3 | .undefB7 | .undefBB | .undefBF | .undefC2 | .undefC3 | .undefC7 | .undefCB
  | .undefCF | .undefD2 | .undefD3 | .undefD4 | .undefD7 | .undefDA | .undefDB | .undefDC | .undefDF | .undefE2
  | .undefE3 | .undefE7 | .undefEB | .undefEF | .undefF2 | .undefF3 | .undefF4 | .undefF7 | .undefFA | .undefFB
  | .undefFC | .undefFF => .implied

/-- How many operand bytes a mode has (30_encoding.md R80, R81). -/
def Mode.operandSize : Mode → Nat
  | .implied | .accumulator => 0
  | .immediate | .zeroPage | .zeroPageX | .zeroPageY | .indirectX | .indirectY | .relative => 1
  | .absolute | .absoluteX | .absoluteY | .indirect => 2

/-- The `k`-th byte of an instruction whose bits are `w`, bit 0 the least significant bit of the first byte; the
bits from `nbits` upwards are 0. -/
def tableByte (nbits w k : Nat) : Byte :=
  BitVec.ofNat 8 ((w % 2 ^ nbits) >>> (8 * k))

/-- The instruction the decoder reads, with the default parameters, from an instruction whose bits are `w`
numbered as spec/opcode_table.json numbers them (log entry 13). -/
def decodeTableWord (nbits w : Nat) : Option Instr :=
  match decode Machine.standardParams [tableByte nbits w 0, tableByte nbits w 1, tableByte nbits w 2] with
  | .ok (i, _) => some i
  | .error _ => none

end Sys2Proof
end

