-- ==== Sys2Proof/Machine/Fetch.lean ====
section
/-! DEFINITION. Fetching one instruction, and placing one where the next Step fetches it (60_exceptions.md R270;
30_encoding.md R83, R84). -/

namespace Sys2Proof.Machine

/-- The fetch half of Step (60_exceptions.md R270): the opcode byte, Cycles + 1, then the operand bytes the opcode
byte asks for, which all come before the operation (40_addressing.md R120; D23, log entry 10). No instruction for a
byte outside `OPSET`, and then only the opcode byte is fetched (30_encoding.md R92). -/
def fetchInstr (s : State) : Option Instr × State :=
  let op := fetch8 s
  let counted := op.2.countCycle
  match decodeOpcode s.params op.1 with
  | .error _ => (none, counted)
  | .ok (.f1 i) => (some i, counted)
  | .ok (.f2 make) =>
    let b1 := fetch8 counted
    (some (make b1.1), b1.2)
  | .ok (.f3 make) =>
    let w := fetch16 counted
    (some (make w.1), w.2)

/-- Three bytes stored at PC and the two addresses after it, modulo 65536. -/
def State.placeAtPc (s : State) (b0 b1 b2 : Byte) : State :=
  ((s.memWrite s.pc b0).memWrite (s.pc + 1#16) b1).memWrite (s.pc + 2#16) b2

end Sys2Proof.Machine
end

