-- ==== Sys2Proof/Machine/Step.lean ====
section
/-! DEFINITION. One Step of the core (60_exceptions.md R270, R271). -/

namespace Sys2Proof.Machine

/-- `Step`: while Halted is 1 it changes nothing (60_exceptions.md R271); otherwise fetch, count, and execute the
instruction, or the one-byte no-op for a byte outside `OPSET` (R270). -/
def step (s : State) : Host.Outcome State Fault Refusal :=
  if s.halted then .next s
  else
    match fetchInstr s with
    | (some i, fetched) => exec i fetched
    | (none, fetched) => execOmitted fetched

/-- The state with an instruction's bytes stored where the next Step fetches them, at PC and the two bytes after
it, and Halted cleared, without which no Step fetches (log entries 12 and 13). -/
def State.withFetchWord (s : State) (nbits w : Nat) : State :=
  (s.placeAtPc (tableByte nbits w 0) (tableByte nbits w 1) (tableByte nbits w 2)).clearHalted

end Sys2Proof.Machine
end

