-- ==== Sys2Proof/Machine/Assembler.lean ====
section
/-! DEFINITION. The assembler of the toolchain: tokenizer, parser, encoder (30_encoding.md R100 to R113). It is not
hardware (00_scope.md R6): no file of the machine imports it. It is a pure function from text to bytes, and every stage
degrades silently (R100). Text whose meaning the spec leaves open (91_not_in_source.md N14, N15, N16), and no other text,
is given none, as 93_implementation_defined.md U43 says (log entry 26). -/

namespace Sys2Proof.Machine

/-- The seven token types (30_encoding.md R102). -/
inductive TokenKind where
  | identifier | number | comma | newline | hash | dollar | colon
deriving DecidableEq, Repr

/-- A token: its type and its exact source text (30_encoding.md R102). -/
structure Token where
  kind : TokenKind
  text : List Char
deriving DecidableEq, Repr

/-- Where the tokenizer stands: between tokens, in a comment, or in a run it is collecting. -/
inductive Scan where
  | between
  | comment
  | number (run : List Char)
  | identifier (run : List Char)
deriving DecidableEq, Repr

/-- The token a collected run makes. -/
def Scan.flush : Scan → List Token
  | .between | .comment => []
  | .number run => [⟨.number, run⟩]
  | .identifier run => [⟨.identifier, run⟩]

def isHexDigit (c : Char) : Bool :=
  c.isDigit || ('a' ≤ c && c ≤ 'f') || ('A' ≤ c && c ≤ 'F')

/-- The tokenizer's rules in priority order at the start of a token (30_encoding.md R102, rules 1 to 9); a space, a
tab and every byte that matches no rule are skipped. -/
def scanFresh (c : Char) : List Token × Scan :=
  if c = '\n' then ([⟨.newline, [c]⟩], .between)
  else if c = ';' then ([], .comment)
  else if c = '#' then ([⟨.hash, [c]⟩], .between)
  else if c = '$' then ([⟨.dollar, [c]⟩], .between)
  else if c = ':' then ([⟨.colon, [c]⟩], .between)
  else if c = ',' then ([⟨.comma, [c]⟩], .between)
  else if c.isDigit then ([], .number [c])
  else if c.isAlpha || c = '_' then ([], .identifier [c])
  else ([], .between)

/-- One character: a comment runs to the newline, a Number takes every hexadecimal digit, an Identifier every letter,
digit and underscore (30_encoding.md R102). -/
def scanChar (scan : Scan) (c : Char) : List Token × Scan :=
  let fresh := scanFresh c
  match scan with
  | .between => fresh
  | .comment => if c = '\n' then fresh else ([], .comment)
  | .number run => if isHexDigit c then ([], .number (run ++ [c])) else (scan.flush ++ fresh.1, fresh.2)
  | .identifier run =>
    if c.isAlphanum || c = '_' then ([], .identifier (run ++ [c])) else (scan.flush ++ fresh.1, fresh.2)

def tokenizeFrom : Scan → List Char → List Token
  | scan, [] => scan.flush
  | scan, c :: rest =>
    let next := scanChar scan c
    next.1 ++ tokenizeFrom next.2 rest

/-- The tokenizer (30_encoding.md R102). -/
def tokenize (text : List Char) : List Token :=
  tokenizeFrom .between text

/-- Source lines joined with newline separators (30_encoding.md R101). -/
def joinLines (lines : List (List Char)) : List Char :=
  List.intercalate ['\n'] lines

/-- The points of the syntax that the spec leaves open (93_implementation_defined.md U43). -/
inductive AsmOpen where
  /-- A hexadecimal literal that starts with a letter (30_encoding.md R103, N14). -/
  | hexLiteralStartsWithLetter
  /-- The operand `a` in lower case (30_encoding.md R108, N15). -/
  | lowerCaseAccumulator
  /-- A `,X` or `,Y` after a bare decimal operand (30_encoding.md R113, N16). -/
  | suffixAfterDecimal
  /-- A decimal number that holds hexadecimal letters (30_encoding.md R113, N16). -/
  | hexDigitsInDecimal
  /-- A literal above 16 bits (30_encoding.md R113, N16). -/
  | literalTooLarge
deriving DecidableEq, Repr

/-- A parsed instruction record (30_encoding.md R104). -/
structure AsmInstr where
  mnemonic : List Char
  mode : Mode
  operand : Nat
  label : Option (List Char)
deriving DecidableEq, Repr

def digitValue (c : Char) : Nat :=
  if c.isDigit then c.toNat - '0'.toNat
  else if 'a' ≤ c && c ≤ 'f' then c.toNat - 'a'.toNat + 10
  else c.toNat - 'A'.toNat + 10

def numeral (base : Nat) (digits : List Char) : Nat :=
  digits.foldl (fun n c => n * base + digitValue c) 0

/-- The value after a Dollar; more than four digits is open (30_encoding.md R105, R113). -/
def hexLiteral (digits : List Char) : Except AsmOpen Nat :=
  if digits.length ≤ 4 then .ok (numeral 16 digits) else .error .literalTooLarge

/-- The value of a bare decimal (30_encoding.md R105, R113). -/
def decimalLiteral (digits : List Char) : Except AsmOpen Nat :=
  if !digits.all Char.isDigit then .error .hexDigitsInDecimal
  else if numeral 10 digits ≤ 65535 then .ok (numeral 10 digits)
  else .error .literalTooLarge

/-- Whether an Identifier token is a hexadecimal literal that starts with a letter (30_encoding.md R103, N14). -/
def isHexLiteral (text : List Char) : Bool :=
  text.all isHexDigit

def isIndexName (upper lower : Char) (t : Token) : Bool :=
  t.kind = .identifier && (t.text = [upper] || t.text = [lower])

/-- Whether the tokens begin with a Comma and the index name. -/
def startsWithIndex (upper lower : Char) : List Token → Bool
  | c :: t :: _ => c.kind = .comma && isIndexName upper lower t
  | _ => false

/-- A `,X` or `,Y` suffix, in either case, and the tokens after it (30_encoding.md R105). -/
def indexSuffix (plain withX withY : Mode) (ts : List Token) : Mode × List Token :=
  if startsWithIndex 'X' 'x' ts then (withX, ts.drop 2)
  else if startsWithIndex 'Y' 'y' ts then (withY, ts.drop 2)
  else (plain, ts)

/-- A Dollar operand: at most two digits is zero page, more is absolute (30_encoding.md R105). -/
def dollarOperand (digits : List Char) (rest : List Token) : Except AsmOpen (Mode × Nat × List Token) :=
  match hexLiteral digits with
  | .error e => .error e
  | .ok v =>
    let resolved :=
      if digits.length ≤ 2 then indexSuffix .zeroPage .zeroPageX .zeroPageY rest
      else indexSuffix .absolute .absoluteX .absoluteY rest
    .ok (resolved.1, v, resolved.2)

/-- A bare decimal operand: at most 255 is zero page, more is absolute (30_encoding.md R105). A `,X` or `,Y` after it is
open (R113); any other Comma is no part of the operand. -/
def decimalOperand (digits : List Char) (rest : List Token) : Except AsmOpen (Mode × Nat × List Token) :=
  if startsWithIndex 'X' 'x' rest || startsWithIndex 'Y' 'y' rest then .error .suffixAfterDecimal
  else (decimalLiteral digits).map fun v => (if v ≤ 255 then .zeroPage else .absolute, v, rest)

/-- An Immediate's value (30_encoding.md R105). With nothing usable after the Hash it is 0, as R113 assumes, and only the
Hash is taken (DESIGN CHOICE, log entry 28). -/
def hashOperand (rest : List Token) : Except AsmOpen (Mode × Nat × List Token) :=
  match rest with
  | ⟨.dollar, _⟩ :: ⟨.number, digits⟩ :: after => (hexLiteral digits).map fun v => (.immediate, v, after)
  | ⟨.dollar, _⟩ :: ⟨.identifier, t⟩ :: _ =>
    if isHexLiteral t then .error .hexLiteralStartsWithLetter else .ok (.immediate, 0, rest)
  | ⟨.number, digits⟩ :: after => (decimalLiteral digits).map fun v => (.immediate, v, after)
  | _ => .ok (.immediate, 0, rest)

/-- Mode resolution by the token after the mnemonic (30_encoding.md R105); anything unmatched falls back to Implied
with operand 0. The spec does not say whether the fallback consumes the token it did not match: here it takes none, so
that the parser's loop reads that token next; a Dollar without a Number falls back too (DESIGN CHOICE, log entry 28). -/
def parseOperand (ts : List Token) : Except AsmOpen (Mode × Nat × List Token) :=
  match ts with
  | ⟨.hash, _⟩ :: rest => hashOperand rest
  | ⟨.dollar, _⟩ :: ⟨.number, digits⟩ :: rest => dollarOperand digits rest
  | ⟨.dollar, _⟩ :: ⟨.identifier, t⟩ :: _ =>
    if isHexLiteral t then .error .hexLiteralStartsWithLetter else .ok (.implied, 0, ts)
  | ⟨.identifier, t⟩ :: rest =>
    if t = ['A'] then .ok (.accumulator, 0, rest)
    else if t = ['a'] then .error .lowerCaseAccumulator
    else .ok (.implied, 0, ts)
  | ⟨.number, digits⟩ :: rest => decimalOperand digits rest
  | _ => .ok (.implied, 0, ts)

/-- Step 1 of the parser: leading Newline tokens are skipped (30_encoding.md R104). -/
def skipNewlines : List Token → List Token
  | ⟨.newline, _⟩ :: rest => skipNewlines rest
  | ts => ts

/-- Step 2 of the parser: an Identifier immediately followed by a Colon becomes the pending label, and the newlines
after it are passed over (30_encoding.md R104). -/
def takeLabel (pending : Option (List Char)) : List Token → Option (List Char) × List Token
  | ⟨.identifier, label⟩ :: ⟨.colon, _⟩ :: rest => (some label, skipNewlines rest)
  | ts => (pending, ts)

/-- The parser's loop, steps 1 to 5 of 30_encoding.md R104. Step 2 is tried once a round, so the Identifier after a
label is the mnemonic whatever follows it. Where step 3 skips a token, "retry" is read as step 1 again with the pending
label kept (DESIGN CHOICE, log entry 28). Each round takes a token, so the token count bounds the rounds. -/
def parseFrom : Nat → Option (List Char) → List Token → Except AsmOpen (List AsmInstr)
  | 0, _, _ => .ok []
  | rounds + 1, pending, ts =>
    let labelled := takeLabel pending (skipNewlines ts)
    match labelled.2 with
    | [] => .ok []
    | ⟨.identifier, mnemonic⟩ :: rest =>
      match parseOperand rest with
      | .error e => .error e
      | .ok (mode, operand, after) =>
        (parseFrom rounds none after).map fun more => ⟨mnemonic, mode, operand, labelled.1⟩ :: more
    | _ :: rest => parseFrom rounds labelled.1 rest

/-- The parser (30_encoding.md R104). -/
def parse (ts : List Token) : Except AsmOpen (List AsmInstr) :=
  parseFrom (ts.length + 1) none ts

/-- The spelling of each mnemonic, three capital letters (30_encoding.md R88, R101). -/
def mnemonicNames : List (List Char × Mnemonic) :=
  List.flatten
    [[(['L', 'D', 'A'], .lda), (['L', 'D', 'X'], .ldx), (['L', 'D', 'Y'], .ldy), (['S', 'T', 'A'], .sta)],
     [(['S', 'T', 'X'], .stx), (['S', 'T', 'Y'], .sty), (['A', 'D', 'C'], .adc), (['S', 'B', 'C'], .sbc)],
     [(['A', 'N', 'D'], .and), (['O', 'R', 'A'], .ora), (['E', 'O', 'R'], .eor), (['A', 'S', 'L'], .asl)],
     [(['L', 'S', 'R'], .lsr), (['R', 'O', 'L'], .rol), (['R', 'O', 'R'], .ror), (['I', 'N', 'C'], .inc)],
     [(['D', 'E', 'C'], .dec), (['I', 'N', 'X'], .inx), (['I', 'N', 'Y'], .iny), (['D', 'E', 'X'], .dex)],
     [(['D', 'E', 'Y'], .dey), (['C', 'M', 'P'], .cmp), (['C', 'P', 'X'], .cpx), (['C', 'P', 'Y'], .cpy)],
     [(['B', 'I', 'T'], .bit), (['B', 'P', 'L'], .bpl), (['B', 'M', 'I'], .bmi), (['B', 'V', 'C'], .bvc)],
     [(['B', 'V', 'S'], .bvs), (['B', 'C', 'C'], .bcc), (['B', 'C', 'S'], .bcs), (['B', 'N', 'E'], .bne)],
     [(['B', 'E', 'Q'], .beq), (['J', 'M', 'P'], .jmp), (['J', 'S', 'R'], .jsr), (['R', 'T', 'S'], .rts)],
     [(['R', 'T', 'I'], .rti), (['P', 'H', 'A'], .pha), (['P', 'H', 'P'], .php), (['P', 'L', 'A'], .pla)],
     [(['P', 'L', 'P'], .plp), (['T', 'A', 'X'], .tax), (['T', 'X', 'A'], .txa), (['T', 'A', 'Y'], .tay)],
     [(['T', 'Y', 'A'], .tya), (['T', 'S', 'X'], .tsx), (['T', 'X', 'S'], .txs), (['C', 'L', 'C'], .clc)],
     [(['S', 'E', 'C'], .sec), (['C', 'L', 'I'], .cli), (['S', 'E', 'I'], .sei), (['C', 'L', 'V'], .clv)],
     [(['C', 'L', 'D'], .cld), (['S', 'E', 'D'], .sed), (['N', 'O', 'P'], .nop), (['B', 'R', 'K'], .brk)]]

/-- The mnemonic a text names, in either case (30_encoding.md R101, R109); none for an unsupported one. -/
def mnemonicOf (text : List Char) : Option Mnemonic :=
  (mnemonicNames.find? fun row => row.1 == text.map Char.toUpper).map Prod.snd

/-- The per-mnemonic, per-mode lookup: the table of 30_encoding.md R90. -/
def encodingTable : List (Mnemonic × Mode × Byte) :=
  List.flatten
    [[(.lda, .immediate, 0xA9#8), (.lda, .zeroPage, 0xA5#8), (.lda, .zeroPageX, 0xB5#8), (.lda, .absolute, 0xAD#8),
      (.lda, .absoluteX, 0xBD#8), (.lda, .absoluteY, 0xB9#8), (.lda, .indirectX, 0xA1#8), (.lda, .indirectY, 0xB1#8)],
     [(.ldx, .immediate, 0xA2#8), (.ldx, .zeroPage, 0xA6#8),
      (.ldx, .zeroPageY, 0xB6#8), (.ldx, .absolute, 0xAE#8), (.ldx, .absoluteY, 0xBE#8)],
     [(.ldy, .immediate, 0xA0#8), (.ldy, .zeroPage, 0xA4#8),
      (.ldy, .zeroPageX, 0xB4#8), (.ldy, .absolute, 0xAC#8), (.ldy, .absoluteX, 0xBC#8)],
     [(.sta, .zeroPage, 0x85#8), (.sta, .zeroPageX, 0x95#8), (.sta, .absolute, 0x8D#8),
      (.sta, .absoluteX, 0x9D#8), (.sta, .absoluteY, 0x99#8), (.sta, .indirectX, 0x81#8), (.sta, .indirectY, 0x91#8)],
     [(.stx, .zeroPage, 0x86#8), (.stx, .zeroPageY, 0x96#8), (.stx, .absolute, 0x8E#8)],
     [(.sty, .zeroPage, 0x84#8), (.sty, .zeroPageX, 0x94#8), (.sty, .absolute, 0x8C#8)],
     [(.adc, .immediate, 0x69#8), (.adc, .zeroPage, 0x65#8), (.adc, .zeroPageX, 0x75#8), (.adc, .absolute, 0x6D#8),
      (.adc, .absoluteX, 0x7D#8), (.adc, .absoluteY, 0x79#8), (.adc, .indirectX, 0x61#8), (.adc, .indirectY, 0x71#8)],
     [(.sbc, .immediate, 0xE9#8), (.sbc, .zeroPage, 0xE5#8), (.sbc, .zeroPageX, 0xF5#8), (.sbc, .absolute, 0xED#8),
      (.sbc, .absoluteX, 0xFD#8), (.sbc, .absoluteY, 0xF9#8), (.sbc, .indirectX, 0xE1#8), (.sbc, .indirectY, 0xF1#8)],
     [(.and, .immediate, 0x29#8), (.and, .zeroPage, 0x25#8), (.and, .zeroPageX, 0x35#8), (.and, .absolute, 0x2D#8),
      (.and, .absoluteX, 0x3D#8), (.and, .absoluteY, 0x39#8), (.and, .indirectX, 0x21#8), (.and, .indirectY, 0x31#8)],
     [(.ora, .immediate, 0x09#8), (.ora, .zeroPage, 0x05#8), (.ora, .zeroPageX, 0x15#8), (.ora, .absolute, 0x0D#8),
      (.ora, .absoluteX, 0x1D#8), (.ora, .absoluteY, 0x19#8), (.ora, .indirectX, 0x01#8), (.ora, .indirectY, 0x11#8)],
     [(.eor, .immediate, 0x49#8), (.eor, .zeroPage, 0x45#8), (.eor, .zeroPageX, 0x55#8), (.eor, .absolute, 0x4D#8),
      (.eor, .absoluteX, 0x5D#8), (.eor, .absoluteY, 0x59#8), (.eor, .indirectX, 0x41#8), (.eor, .indirectY, 0x51#8)],
     [(.asl, .accumulator, 0x0A#8), (.asl, .zeroPage, 0x06#8),
      (.asl, .zeroPageX, 0x16#8), (.asl, .absolute, 0x0E#8), (.asl, .absoluteX, 0x1E#8)],
     [(.lsr, .accumulator, 0x4A#8), (.lsr, .zeroPage, 0x46#8),
      (.lsr, .zeroPageX, 0x56#8), (.lsr, .absolute, 0x4E#8), (.lsr, .absoluteX, 0x5E#8)],
     [(.rol, .accumulator, 0x2A#8), (.rol, .zeroPage, 0x26#8),
      (.rol, .zeroPageX, 0x36#8), (.rol, .absolute, 0x2E#8), (.rol, .absoluteX, 0x3E#8)],
     [(.ror, .accumulator, 0x6A#8), (.ror, .zeroPage, 0x66#8),
      (.ror, .zeroPageX, 0x76#8), (.ror, .absolute, 0x6E#8), (.ror, .absoluteX, 0x7E#8)],
     [(.inc, .zeroPage, 0xE6#8), (.inc, .zeroPageX, 0xF6#8),
      (.inc, .absolute, 0xEE#8), (.inc, .absoluteX, 0xFE#8)],
     [(.dec, .zeroPage, 0xC6#8), (.dec, .zeroPageX, 0xD6#8),
      (.dec, .absolute, 0xCE#8), (.dec, .absoluteX, 0xDE#8)],
     [(.inx, .implied, 0xE8#8), (.iny, .implied, 0xC8#8), (.dex, .implied, 0xCA#8)],
     [(.dey, .implied, 0x88#8)],
     [(.cmp, .immediate, 0xC9#8), (.cmp, .zeroPage, 0xC5#8), (.cmp, .zeroPageX, 0xD5#8), (.cmp, .absolute, 0xCD#8),
      (.cmp, .absoluteX, 0xDD#8), (.cmp, .absoluteY, 0xD9#8), (.cmp, .indirectX, 0xC1#8), (.cmp, .indirectY, 0xD1#8)],
     [(.cpx, .immediate, 0xE0#8), (.cpx, .zeroPage, 0xE4#8), (.cpx, .absolute, 0xEC#8)],
     [(.cpy, .immediate, 0xC0#8), (.cpy, .zeroPage, 0xC4#8), (.cpy, .absolute, 0xCC#8)],
     [(.bit, .zeroPage, 0x24#8), (.bit, .absolute, 0x2C#8), (.bpl, .relative, 0x10#8)],
     [(.bmi, .relative, 0x30#8), (.bvc, .relative, 0x50#8), (.bvs, .relative, 0x70#8)],
     [(.bcc, .relative, 0x90#8), (.bcs, .relative, 0xB0#8), (.bne, .relative, 0xD0#8)],
     [(.beq, .relative, 0xF0#8), (.jmp, .absolute, 0x4C#8), (.jmp, .indirect, 0x6C#8)],
     [(.jsr, .absolute, 0x20#8), (.rts, .implied, 0x60#8), (.rti, .implied, 0x40#8)],
     [(.pha, .implied, 0x48#8), (.php, .implied, 0x08#8), (.pla, .implied, 0x68#8)],
     [(.plp, .implied, 0x28#8), (.tax, .implied, 0xAA#8), (.txa, .implied, 0x8A#8)],
     [(.tay, .implied, 0xA8#8), (.tya, .implied, 0x98#8), (.tsx, .implied, 0xBA#8)],
     [(.txs, .implied, 0x9A#8), (.clc, .implied, 0x18#8), (.sec, .implied, 0x38#8)],
     [(.cli, .implied, 0x58#8), (.sei, .implied, 0x78#8), (.clv, .implied, 0xB8#8)],
     [(.cld, .implied, 0xD8#8), (.sed, .implied, 0xF8#8), (.nop, .implied, 0xEA#8)],
     [(.brk, .implied, 0x00#8)]]

def opcodeFor (m : Mnemonic) (mode : Mode) : Option Byte :=
  (encodingTable.find? fun row => row.1 == m && row.2.1 == mode).map fun row => row.2.2

/-- Whether a mnemonic is one of the eight conditional branches (30_encoding.md R89). -/
def isBranch (m : Mnemonic) : Bool :=
  [.bpl, .bmi, .bvc, .bvs, .bcc, .bcs, .bne, .beq].contains m

/-- A branch reaches the encoder as a ZeroPage record whose operand is the offset byte (30_encoding.md R111; D24,
log entry 27). -/
def encoderMode (m : Mnemonic) (mode : Mode) : Mode :=
  if isBranch m && mode == .zeroPage then .relative else mode

/-- Operand bytes by mode: none, the low 8 bits, or low byte then high byte (30_encoding.md R80, R109). -/
def operandBytes (mode : Mode) (operand : Nat) : List Byte :=
  match mode with
  | .implied | .accumulator => []
  | .immediate | .zeroPage | .zeroPageX | .zeroPageY | .indirectX | .indirectY | .relative =>
    [BitVec.ofNat 8 operand]
  | .absolute | .absoluteX | .absoluteY | .indirect =>
    [lowByte (BitVec.ofNat 16 operand), highByte (BitVec.ofNat 16 operand)]

/-- The encoder on one record; a mnemonic or mode with no encoding emits no bytes at all (30_encoding.md R109). -/
def encodeRecord (r : AsmInstr) : List Byte :=
  match mnemonicOf r.mnemonic with
  | none => []
  | some m =>
    match opcodeFor m (encoderMode m r.mode) with
    | none => []
    | some op => op :: operandBytes (encoderMode m r.mode) r.operand

/-- The three-stage pipeline (30_encoding.md R100): a flat sequence of bytes in program order. -/
def assemble (text : List Char) : Except AsmOpen (List Byte) :=
  (parse (tokenize text)).map fun records => (records.map encodeRecord).flatten

end Sys2Proof.Machine
end

