-- ==== Sys2Proof/Machine/HostInterface.lean ====
section
/-! DEFINITION. What the host may do to the core between Steps, and the run loop it starts
(60_exceptions.md R272 to R275; 70_reset_and_hazards.md R300 to R320). Each transaction is atomic (D22, log entry 21). -/

namespace Sys2Proof.Machine

/-- `Run(ceiling)` with a bound on the number of Steps, which is only there for the recursion. -/
def runBounded : Nat → Nat → State → Result
  | 0, _, s => .next s
  | bound + 1, ceiling, s =>
    if s.halted || decide (ceiling ≤ s.cycles) then .next s
    else
      match step s with
      | .next t => runBounded bound ceiling t
      | .fault r => .fault r
      | .refused r => .refused r

/-- `Run(ceiling)`: while Halted is 0 and Cycles < ceiling, Step (60_exceptions.md R272; D16, log entry 23). Every Step
adds one to Cycles, so `ceiling - Cycles` Steps always suffice (R273). -/
def run (ceiling : Nat) (s : State) : Result :=
  runBounded (ceiling - s.cycles) ceiling s

/-- The bytes of a buffer at consecutive addresses from `origin`. -/
def State.loadBytes (s : State) (origin : Nat) : List Byte → State
  | [] => s
  | b :: rest => (s.memWrite (BitVec.ofNat 16 origin) b).loadBytes (origin + 1) rest

/-- `Load(origin, buf)` (70_reset_and_hazards.md R310), refused outside its precondition (R311; D21, log entry 22). -/
def hostLoad (origin : Int) (buf : List Byte) (s : State) : Result :=
  if 0 ≤ origin ∧ origin ≤ 65535 ∧ origin + buf.length ≤ 65536 then .next (s.loadBytes origin.toNat buf)
  else .refused .loadOutsideMemory

/-- `SetPC(addr)` (70_reset_and_hazards.md R312), refused outside 0 to 65535 (R311; D21, log entry 22). -/
def hostSetPc (addr : Int) (s : State) : Result :=
  if 0 ≤ addr ∧ addr ≤ 65535 then .next (s.setPc (BitVec.ofInt 16 addr)) else .refused .setPcOutsideMemory

/-- `ClearRunState()`: Halted <- 0, Cycles <- 0 (70_reset_and_hazards.md R313). -/
def clearRunState (s : State) : State := s.clearHalted.clearCycles

/-- `ReadByte(addr)`: the byte, and 0 for an address outside memory (70_reset_and_hazards.md R315). -/
def readByte (addr : Int) (s : State) : Byte :=
  if 0 ≤ addr ∧ addr ≤ 65535 then s.memRead (BitVec.ofInt 16 addr) else 0x00#8

/-- `IsHalted()` (70_reset_and_hazards.md R316). -/
def isHalted (s : State) : Bool := s.halted

/-- What the host may observe of the registers between Steps (70_reset_and_hazards.md R317; D28, log entry 24). -/
structure Observation where
  a : Byte
  x : Byte
  y : Byte
  sp : Byte
  pc : Word
  p : Byte
  halted : Bool
  cycles : Nat
deriving DecidableEq, Repr

/-- The observation of a state; it changes nothing (70_reset_and_hazards.md R317). -/
def observe (s : State) : Observation :=
  ⟨s.a, s.x, s.y, s.sp, s.pc, s.p, s.halted, s.cycles⟩

/-- The host's mutating transactions (70_reset_and_hazards.md R320: nothing else changes the state from outside). Beside
`ClearRunState`, which clears both, its two clears are offered one by one, as R313 allows (DESIGN CHOICE, log entry 30):
clearing Halted alone keeps Cycles (60_exceptions.md R293). -/
inductive HostAction where
  | load (origin : Int) (buf : List Byte)
  | setPc (addr : Int)
  | clearRunState
  | clearHalted
  | clearCycles
  | run (ceiling : Nat)
deriving DecidableEq, Repr

/-- One host transaction (70_reset_and_hazards.md R310 to R314). -/
def hostAct : HostAction → State → Result
  | .load origin buf, s => hostLoad origin buf s
  | .setPc addr, s => hostSetPc addr s
  | .clearRunState, s => .next (clearRunState s)
  | .clearHalted, s => .next s.clearHalted
  | .clearCycles, s => .next s.clearCycles
  | .run ceiling, s => run ceiling s

/-- Transactions one after the other, up to the first that is refused. -/
def hostActs : List HostAction → State → Result
  | [], s => .next s
  | act :: rest, s =>
    match hostAct act s with
    | .next t => hostActs rest t
    | .fault r => .fault r
    | .refused r => .refused r

/-- Steps 2 to 5 of the boot sequence for one buffer (70_reset_and_hazards.md R318). -/
def bootSequence (origin : Int) (buf : List Byte) (entry : Int) (ceiling : Nat) : List HostAction :=
  [.load origin buf, .setPc entry, .clearRunState, .run ceiling]

/-- The end of a program's run, for claims about programs: Halted is 1 (60_exceptions.md R275). A Run called while
Halted is already 1 takes no Step, and R275's two wordings part ways there: "Halted = 1 for the first time after the
host's Run call" holds at once, "right after the Step that executed an opcode byte 0x00" does not. This predicate looks
at the state alone and counts that Run as ended (DESIGN CHOICE, log entry 29). -/
def runEnded (s : State) : Bool := s.halted

/-- A Run that returned without Halted has only exhausted its budget and may be continued (60_exceptions.md R274, R275). -/
def runSuspended (ceiling : Nat) (s : State) : Bool := !s.halted && decide (ceiling ≤ s.cycles)

end Sys2Proof.Machine
end

