-- ==== Sys2Proof/Safety.lean ====
section
/-! DEFINITION. What the claims call a well-formed state, a reachable state and a safe outcome. -/

namespace Sys2Proof.Machine

/-- The invariant of the core: memory is in canonical form, and bit 5 of P is 1 (10_state.md R26, R32). -/
def State.Inv (s : State) : Prop :=
  s.mem.wf = true ∧ s.p[5] = true

/-- A result that is a next state: neither a fault nor a refusal (60_exceptions.md R278). -/
def Completes (r : Result) : Prop :=
  ∃ t, r = .next t

/-- The states reachable from a created state by Steps and host transactions (70_reset_and_hazards.md R300, R320). -/
inductive Reachable : State → Prop where
  | created (resetSp : Byte) (resetPc : Word) (params : Params) :
      Reachable (State.create resetSp resetPc params)
  | stepped (s t : State) : Reachable s → step s = .next t → Reachable t
  | acted (act : HostAction) (s t : State) : Reachable s → hostAct act s = .next t → Reachable t

end Sys2Proof.Machine
end

