-- ==== Sys2Proof/WellFormed.lean ====
section
/-! DEFINITION. When an instruction exists on the machine. Every operand value is legal (30_encoding.md R85), so the
one check is that the instruction's opcode byte is in `OPSET` (30_encoding.md R87, R92, R94). -/

namespace Sys2Proof

/-- The instruction's opcode byte is one the dispatcher implements. -/
def Instr.wellFormed (c : Params) (i : Instr) : Bool :=
  !c.omits i.opcode

end Sys2Proof
end

