-- ==== Sys2Proof/Certificates/Slice0/Obligations.lean ====
section
/-! DEFINITION. The statements for the provers. Each docstring names the rule of the spec it formalises. An instruction's
result is stated on the state `exec` gets, in which the whole instruction is fetched (log entry 10). -/

namespace Sys2Proof.Claims

open Sys2Proof.Machine

/-! The forms of the instructions that have several, named one by one with the operand of each, for every operand
byte `b` and every operand word `w`. -/

/-- The forms of LDA (41_load_store.md R140). -/
def ldaForms (b : Byte) (w : Word) : List (Instr × Operand) :=
  [(.ldaImm b, .immediate b), (.ldaZp b, .memory (.zeroPage b)), (.ldaZpx b, .memory (.zeroPageX b)),
   (.ldaAbs w, .memory (.absolute w)), (.ldaAbx w, .memory (.absoluteX w)),
   (.ldaAby w, .memory (.absoluteY w)), (.ldaIzx b, .memory (.indirectX b)),
   (.ldaIzy b, .memory (.indirectY b))]

/-- The forms of LDX (41_load_store.md R141). -/
def ldxForms (b : Byte) (w : Word) : List (Instr × Operand) :=
  [(.ldxImm b, .immediate b), (.ldxZp b, .memory (.zeroPage b)), (.ldxZpy b, .memory (.zeroPageY b)),
   (.ldxAbs w, .memory (.absolute w)), (.ldxAby w, .memory (.absoluteY w))]

/-- The forms of LDY (41_load_store.md R142). -/
def ldyForms (b : Byte) (w : Word) : List (Instr × Operand) :=
  [(.ldyImm b, .immediate b), (.ldyZp b, .memory (.zeroPage b)), (.ldyZpx b, .memory (.zeroPageX b)),
   (.ldyAbs w, .memory (.absolute w)), (.ldyAbx w, .memory (.absoluteX w))]

/-- The forms of ADC (42_arithmetic.md R150). -/
def adcForms (b : Byte) (w : Word) : List (Instr × Operand) :=
  [(.adcImm b, .immediate b), (.adcZp b, .memory (.zeroPage b)), (.adcZpx b, .memory (.zeroPageX b)),
   (.adcAbs w, .memory (.absolute w)), (.adcAbx w, .memory (.absoluteX w)),
   (.adcAby w, .memory (.absoluteY w)), (.adcIzx b, .memory (.indirectX b)),
   (.adcIzy b, .memory (.indirectY b))]

/-- The forms of SBC (42_arithmetic.md R151). -/
def sbcForms (b : Byte) (w : Word) : List (Instr × Operand) :=
  [(.sbcImm b, .immediate b), (.sbcZp b, .memory (.zeroPage b)), (.sbcZpx b, .memory (.zeroPageX b)),
   (.sbcAbs w, .memory (.absolute w)), (.sbcAbx w, .memory (.absoluteX w)),
   (.sbcAby w, .memory (.absoluteY w)), (.sbcIzx b, .memory (.indirectX b)),
   (.sbcIzy b, .memory (.indirectY b))]

/-- The forms of AND (43_bitwise.md R160). -/
def andForms (b : Byte) (w : Word) : List (Instr × Operand) :=
  [(.andImm b, .immediate b), (.andZp b, .memory (.zeroPage b)), (.andZpx b, .memory (.zeroPageX b)),
   (.andAbs w, .memory (.absolute w)), (.andAbx w, .memory (.absoluteX w)),
   (.andAby w, .memory (.absoluteY w)), (.andIzx b, .memory (.indirectX b)),
   (.andIzy b, .memory (.indirectY b))]

/-- The forms of ORA (43_bitwise.md R161). -/
def oraForms (b : Byte) (w : Word) : List (Instr × Operand) :=
  [(.oraImm b, .immediate b), (.oraZp b, .memory (.zeroPage b)), (.oraZpx b, .memory (.zeroPageX b)),
   (.oraAbs w, .memory (.absolute w)), (.oraAbx w, .memory (.absoluteX w)),
   (.oraAby w, .memory (.absoluteY w)), (.oraIzx b, .memory (.indirectX b)),
   (.oraIzy b, .memory (.indirectY b))]

/-- The forms of EOR (43_bitwise.md R162). -/
def eorForms (b : Byte) (w : Word) : List (Instr × Operand) :=
  [(.eorImm b, .immediate b), (.eorZp b, .memory (.zeroPage b)), (.eorZpx b, .memory (.zeroPageX b)),
   (.eorAbs w, .memory (.absolute w)), (.eorAbx w, .memory (.absoluteX w)),
   (.eorAby w, .memory (.absoluteY w)), (.eorIzx b, .memory (.indirectX b)),
   (.eorIzy b, .memory (.indirectY b))]

/-- The forms of CMP (46_compare_bit.md R190). -/
def cmpForms (b : Byte) (w : Word) : List (Instr × Operand) :=
  [(.cmpImm b, .immediate b), (.cmpZp b, .memory (.zeroPage b)), (.cmpZpx b, .memory (.zeroPageX b)),
   (.cmpAbs w, .memory (.absolute w)), (.cmpAbx w, .memory (.absoluteX w)),
   (.cmpAby w, .memory (.absoluteY w)), (.cmpIzx b, .memory (.indirectX b)),
   (.cmpIzy b, .memory (.indirectY b))]

/-- The forms of CPX (46_compare_bit.md R191). -/
def cpxForms (b : Byte) (w : Word) : List (Instr × Operand) :=
  [(.cpxImm b, .immediate b), (.cpxZp b, .memory (.zeroPage b)), (.cpxAbs w, .memory (.absolute w))]

/-- The forms of CPY (46_compare_bit.md R192). -/
def cpyForms (b : Byte) (w : Word) : List (Instr × Operand) :=
  [(.cpyImm b, .immediate b), (.cpyZp b, .memory (.zeroPage b)), (.cpyAbs w, .memory (.absolute w))]

/-- The forms of STA (41_load_store.md R143). -/
def staForms (b : Byte) (w : Word) : List (Instr × MemOperand) :=
  [(.staZp b, .zeroPage b), (.staZpx b, .zeroPageX b), (.staAbs w, .absolute w), (.staAbx w, .absoluteX w),
   (.staAby w, .absoluteY w), (.staIzx b, .indirectX b), (.staIzy b, .indirectY b)]

/-- The forms of STX (41_load_store.md R144). -/
def stxForms (b : Byte) (w : Word) : List (Instr × MemOperand) :=
  [(.stxZp b, .zeroPage b), (.stxZpy b, .zeroPageY b), (.stxAbs w, .absolute w)]

/-- The forms of STY (41_load_store.md R145). -/
def styForms (b : Byte) (w : Word) : List (Instr × MemOperand) :=
  [(.styZp b, .zeroPage b), (.styZpx b, .zeroPageX b), (.styAbs w, .absolute w)]

/-- The forms of INC (45_inc_dec.md R180). -/
def incForms (b : Byte) (w : Word) : List (Instr × MemOperand) :=
  [(.incZp b, .zeroPage b), (.incZpx b, .zeroPageX b), (.incAbs w, .absolute w), (.incAbx w, .absoluteX w)]

/-- The forms of DEC (45_inc_dec.md R181). -/
def decForms (b : Byte) (w : Word) : List (Instr × MemOperand) :=
  [(.decZp b, .zeroPage b), (.decZpx b, .zeroPageX b), (.decAbs w, .absolute w), (.decAbx w, .absoluteX w)]

/-- The forms of BIT (46_compare_bit.md R193). -/
def bitForms (b : Byte) (w : Word) : List (Instr × MemOperand) :=
  [(.bitZp b, .zeroPage b), (.bitAbs w, .absolute w)]

/-- The forms of ASL (44_shift_rotate.md R170). -/
def aslForms (b : Byte) (w : Word) : List (Instr × Target) :=
  [(.aslAcc, .accumulator), (.aslZp b, .memory (.zeroPage b)), (.aslZpx b, .memory (.zeroPageX b)),
   (.aslAbs w, .memory (.absolute w)), (.aslAbx w, .memory (.absoluteX w))]

/-- The forms of LSR (44_shift_rotate.md R171). -/
def lsrForms (b : Byte) (w : Word) : List (Instr × Target) :=
  [(.lsrAcc, .accumulator), (.lsrZp b, .memory (.zeroPage b)), (.lsrZpx b, .memory (.zeroPageX b)),
   (.lsrAbs w, .memory (.absolute w)), (.lsrAbx w, .memory (.absoluteX w))]

/-- The forms of ROL (44_shift_rotate.md R172). -/
def rolForms (b : Byte) (w : Word) : List (Instr × Target) :=
  [(.rolAcc, .accumulator), (.rolZp b, .memory (.zeroPage b)), (.rolZpx b, .memory (.zeroPageX b)),
   (.rolAbs w, .memory (.absolute w)), (.rolAbx w, .memory (.absoluteX w))]

/-- The forms of ROR (44_shift_rotate.md R173). -/
def rorForms (b : Byte) (w : Word) : List (Instr × Target) :=
  [(.rorAcc, .accumulator), (.rorZp b, .memory (.zeroPage b)), (.rorZpx b, .memory (.zeroPageX b)),
   (.rorAbs w, .memory (.absolute w)), (.rorAbx w, .memory (.absoluteX w))]

/-- The instructions of the 105 undefined opcode bytes (30_encoding.md R92). -/
def undefinedInstrs : List Instr :=
  List.flatten
    [[.undef02, .undef03, .undef04, .undef07, .undef0B, .undef0C, .undef0F, .undef12],
     [.undef13, .undef14, .undef17, .undef1A, .undef1B, .undef1C, .undef1F, .undef22],
     [.undef23, .undef27, .undef2B, .undef2F, .undef32, .undef33, .undef34, .undef37],
     [.undef3A, .undef3B, .undef3C, .undef3F, .undef42, .undef43, .undef44, .undef47],
     [.undef4B, .undef4F, .undef52, .undef53, .undef54, .undef57, .undef5A, .undef5B],
     [.undef5C, .undef5F, .undef62, .undef63, .undef64, .undef67, .undef6B, .undef6F],
     [.undef72, .undef73, .undef74, .undef77, .undef7A, .undef7B, .undef7C, .undef7F],
     [.undef80, .undef82, .undef83, .undef87, .undef89, .undef8B, .undef8F, .undef92],
     [.undef93, .undef97, .undef9B, .undef9C, .undef9E, .undef9F, .undefA3, .undefA7],
     [.undefAB, .undefAF, .undefB2, .undefB3, .undefB7, .undefBB, .undefBF, .undefC2],
     [.undefC3, .undefC7, .undefCB, .undefCF, .undefD2, .undefD3, .undefD4, .undefD7],
     [.undefDA, .undefDB, .undefDC, .undefDF, .undefE2, .undefE3, .undefE7, .undefEB],
     [.undefEF, .undefF2, .undefF3, .undefF4, .undefF7, .undefFA, .undefFB, .undefFC],
     [.undefFF]]

/-- The 105 undefined opcode bytes as 30_encoding.md R92 lists them. -/
def undefinedBytes : List Byte :=
  List.flatten
    [[0x02#8, 0x03#8, 0x04#8, 0x07#8, 0x0B#8, 0x0C#8, 0x0F#8, 0x12#8, 0x13#8, 0x14#8],
     [0x17#8, 0x1A#8, 0x1B#8, 0x1C#8, 0x1F#8, 0x22#8, 0x23#8, 0x27#8, 0x2B#8, 0x2F#8],
     [0x32#8, 0x33#8, 0x34#8, 0x37#8, 0x3A#8, 0x3B#8, 0x3C#8, 0x3F#8, 0x42#8, 0x43#8],
     [0x44#8, 0x47#8, 0x4B#8, 0x4F#8, 0x52#8, 0x53#8, 0x54#8, 0x57#8, 0x5A#8, 0x5B#8],
     [0x5C#8, 0x5F#8, 0x62#8, 0x63#8, 0x64#8, 0x67#8, 0x6B#8, 0x6F#8, 0x72#8, 0x73#8],
     [0x74#8, 0x77#8, 0x7A#8, 0x7B#8, 0x7C#8, 0x7F#8, 0x80#8, 0x82#8, 0x83#8, 0x87#8],
     [0x89#8, 0x8B#8, 0x8F#8, 0x92#8, 0x93#8, 0x97#8, 0x9B#8, 0x9C#8, 0x9E#8, 0x9F#8],
     [0xA3#8, 0xA7#8, 0xAB#8, 0xAF#8, 0xB2#8, 0xB3#8, 0xB7#8, 0xBB#8, 0xBF#8, 0xC2#8],
     [0xC3#8, 0xC7#8, 0xCB#8, 0xCF#8, 0xD2#8, 0xD3#8, 0xD4#8, 0xD7#8, 0xDA#8, 0xDB#8],
     [0xDC#8, 0xDF#8, 0xE2#8, 0xE3#8, 0xE7#8, 0xEB#8, 0xEF#8, 0xF2#8, 0xF3#8, 0xF4#8],
     [0xF7#8, 0xFA#8, 0xFB#8, 0xFC#8, 0xFF#8]]

/-! The spec's numbers, as unbounded integers (00_scope.md R12). -/

/-- `M[n]` as a number, the address reduced modulo 65536 (20_memory.md R52). -/
def cell (s : State) (n : Nat) : Nat :=
  (s.memRead (BitVec.ofNat 16 n)).toNat

/-- The signed value of a byte: b when b < 128, else b - 256 (47_branch.md R200). -/
def signed (b : Byte) : Int :=
  if b.toNat < 128 then b.toNat else (b.toNat : Int) - 256

/-- A flag as the number 0 or 1. -/
def bit (s : State) (f : Flag) : Nat :=
  (s.flag f).toNat

/-- Z and N describe the byte `v` (10_state.md R27). -/
def ZnOf (t : State) (v : Byte) : Prop :=
  t.flag .zero = decide (v.toNat = 0) ∧ t.flag .negative = decide (128 ≤ v.toNat)

/-- Where a shift or rotate leaves its result: in A, or at the address computed before the write
(44_shift_rotate.md R176). -/
def resultAt (before after : State) : Target → Byte
  | .accumulator => after.a
  | .memory m => after.memRead (before.effectiveAddress m)

/-- The state after a conditional branch: a taken branch adds the signed offset modulo 65536 (47_branch.md R201). -/
def branched (taken : Bool) (offset : Byte) (s : State) : State :=
  if taken then { s with pc := BitVec.ofInt 16 ((s.pc.toNat : Int) + signed offset) } else s

/-- Every flag but those in the list is as before. -/
def OtherFlagsKept (written : List Flag) (s t : State) : Prop :=
  ∀ f, f ∉ written → t.flag f = s.flag f

/-- The opcode byte and the length of an instruction. -/
def codeOf (i : Instr) : Byte × Nat := (i.opcode, i.length)

/-- Every cell but the one at `addr` is as before. -/
def OtherCellsKept (addr : Word) (s t : State) : Prop :=
  ∀ other : Word, other ≠ addr → t.memRead other = s.memRead other

/-- The lowest `n` bytes of a number, low byte first (20_memory.md R55). -/
def littleEndian (n value : Nat) : List Byte :=
  (List.range n).map fun k => BitVec.ofNat 8 (value / 256 ^ k)

/-! Which instruction writes what. -/

/-- The instruction's mnemonic is in the list. -/
def isOneOf (i : Instr) (ms : List Mnemonic) : Bool :=
  match i.mnemonic with
  | some m => ms.contains m
  | none => false

/-- The four shifts and rotates. -/
def shifts : List Mnemonic := [.asl, .lsr, .rol, .ror]

/-- The instructions that write A (10_state.md R21). -/
def writesA (i : Instr) : Bool :=
  isOneOf i [.lda, .adc, .sbc, .and, .ora, .eor, .pla, .txa, .tya] || (isOneOf i shifts && i.mode == .accumulator)

/-- The instructions that write X (10_state.md R21). -/
def writesX (i : Instr) : Bool := isOneOf i [.ldx, .inx, .dex, .tax, .tsx]

/-- The instructions that write Y (10_state.md R21). -/
def writesY (i : Instr) : Bool := isOneOf i [.ldy, .iny, .dey, .tay]

/-- The instructions that write SP: those that push or pull, and TXS (10_state.md R22). -/
def writesSp (i : Instr) : Bool := isOneOf i [.pha, .php, .pla, .plp, .jsr, .rts, .rti, .txs]

/-- The instructions that set PC beyond the fetch (10_state.md R24). -/
def writesPc (i : Instr) : Bool :=
  isOneOf i [.bpl, .bmi, .bvc, .bvs, .bcc, .bcs, .bne, .beq, .jmp, .jsr, .rts, .rti]

/-- The closed list of instructions that apply SetZN (10_state.md R27). -/
def setZnList : List Mnemonic :=
  [.lda, .ldx, .ldy, .adc, .sbc, .and, .ora, .eor, .asl, .lsr, .rol, .ror, .inc, .dec, .inx, .iny, .dex, .dey,
   .cmp, .cpx, .cpy, .tax, .txa, .tay, .tya, .tsx, .pla]

/-- The instructions that write a flag (10_state.md R28). -/
def writesFlag : Flag → Instr → Bool
  | .carry, i => isOneOf i [.adc, .sbc, .cmp, .cpx, .cpy, .asl, .lsr, .rol, .ror, .clc, .sec, .plp, .rti]
  | .zero, i => isOneOf i setZnList || isOneOf i [.bit, .plp, .rti]
  | .interruptDisable, i => isOneOf i [.sei, .cli, .plp, .rti]
  | .decimal, i => isOneOf i [.sed, .cld, .plp, .rti]
  | .brk, i => isOneOf i [.plp, .rti]
  | .overflow, i => isOneOf i [.adc, .sbc, .bit, .clv, .plp, .rti]
  | .negative, i => isOneOf i setZnList || isOneOf i [.bit, .plp, .rti]

/-- The addresses an instruction stores one byte to, from the state it is executed in: EA for a store and for the
memory form of a read-modify-write, the stack cells for PHA, PHP and JSR, none for any other (20_memory.md R58). -/
def storedAddresses (i : Instr) (s : State) : List Word :=
  match i with
  | .staZp b => [s.effectiveAddress (.zeroPage b)]
  | .staZpx b => [s.effectiveAddress (.zeroPageX b)]
  | .staAbs w => [s.effectiveAddress (.absolute w)]
  | .staAbx w => [s.effectiveAddress (.absoluteX w)]
  | .staAby w => [s.effectiveAddress (.absoluteY w)]
  | .staIzx b => [s.effectiveAddress (.indirectX b)]
  | .staIzy b => [s.effectiveAddress (.indirectY b)]
  | .stxZp b => [s.effectiveAddress (.zeroPage b)]
  | .stxZpy b => [s.effectiveAddress (.zeroPageY b)]
  | .stxAbs w => [s.effectiveAddress (.absolute w)]
  | .styZp b => [s.effectiveAddress (.zeroPage b)]
  | .styZpx b => [s.effectiveAddress (.zeroPageX b)]
  | .styAbs w => [s.effectiveAddress (.absolute w)]
  | .aslZp b => [s.effectiveAddress (.zeroPage b)]
  | .aslZpx b => [s.effectiveAddress (.zeroPageX b)]
  | .aslAbs w => [s.effectiveAddress (.absolute w)]
  | .aslAbx w => [s.effectiveAddress (.absoluteX w)]
  | .lsrZp b => [s.effectiveAddress (.zeroPage b)]
  | .lsrZpx b => [s.effectiveAddress (.zeroPageX b)]
  | .lsrAbs w => [s.effectiveAddress (.absolute w)]
  | .lsrAbx w => [s.effectiveAddress (.absoluteX w)]
  | .rolZp b => [s.effectiveAddress (.zeroPage b)]
  | .rolZpx b => [s.effectiveAddress (.zeroPageX b)]
  | .rolAbs w => [s.effectiveAddress (.absolute w)]
  | .rolAbx w => [s.effectiveAddress (.absoluteX w)]
  | .rorZp b => [s.effectiveAddress (.zeroPage b)]
  | .rorZpx b => [s.effectiveAddress (.zeroPageX b)]
  | .rorAbs w => [s.effectiveAddress (.absolute w)]
  | .rorAbx w => [s.effectiveAddress (.absoluteX w)]
  | .incZp b => [s.effectiveAddress (.zeroPage b)]
  | .incZpx b => [s.effectiveAddress (.zeroPageX b)]
  | .incAbs w => [s.effectiveAddress (.absolute w)]
  | .incAbx w => [s.effectiveAddress (.absoluteX w)]
  | .decZp b => [s.effectiveAddress (.zeroPage b)]
  | .decZpx b => [s.effectiveAddress (.zeroPageX b)]
  | .decAbs w => [s.effectiveAddress (.absolute w)]
  | .decAbx w => [s.effectiveAddress (.absoluteX w)]
  | .pha => [stackAddress s.sp]
  | .php => [stackAddress s.sp]
  | .jsr _ => [stackAddress s.sp, stackAddress (s.sp - 1#8)]
  | _ => []

/-- Two states that differ at most in the bits I, D and B of P. -/
def AgreeExceptIDB (s t : State) : Prop :=
  t = { s with p := t.p } ∧ s.p &&& 0xE3#8 = t.p &&& 0xE3#8

/-- The three bytes at PC and after it, modulo 65536: as many as the longest instruction has (30_encoding.md R81). -/
def bytesAtPc (s : State) : List Byte :=
  [s.memRead s.pc, s.memRead (s.pc + 1#16), s.memRead (s.pc + 2#16)]

end Sys2Proof.Claims

open Sys2Proof Sys2Proof.Machine Sys2Proof.Claims

/-! Reset, the invariant, and the step. -/

/-- 10_state.md R40: what the created state holds, for every value of `RESET_SP`, `RESET_PC` and the parameters. The
register and flag values are the spec's decisions D4, D7, D8 (log entry 7). `State.reset` takes the spec's default
SP (D5, log entry 6), the defaults of `OPSET`, `JMP_IND_PAGE_WRAP` and `PHP_PUSH_OR` (00_scope.md R11; D2, D11, D12,
log entries 2, 3 and 4) and PC = 0x0000, which is the model's choice (log entry 5). -/
def Obligations.CreatedStateHoldsTheResetValues : Prop :=
  (∀ (sp : Byte) (pc : Word) (c : Params),
    let s := State.create sp pc c
    s.a = 0x00#8 ∧ s.x = 0x00#8 ∧ s.y = 0x00#8 ∧ s.sp = sp ∧ s.pc = pc ∧ s.p = 0x20#8 ∧
    (∀ f, s.flag f = false) ∧ s.halted = false ∧ s.cycles = 0 ∧ s.params = c ∧
    (∀ addr, s.memRead addr = 0x00#8)) ∧
  State.reset = State.create 0xFF#8 0x0000#16 ⟨[], false, false⟩

/-- The state after reset meets the invariant: bit 5 of P is set (10_state.md R26, R40) and memory, all 0x00 (R32,
R40), is in the canonical form, which is the model's own (log entry 25). -/
def Obligations.ResetStateMeetsTheInvariant : Prop :=
  State.reset.Inv ∧ ∀ (sp : Byte) (pc : Word) (c : Params), (State.create sp pc c).Inv

/-- From every state that meets the invariant, a Step gives one that meets it (10_state.md R26). PLP's part is
the spec's D13 (log entry 17), the canonical form the model's (log entry 25). -/
def Obligations.StepKeepsTheInvariant : Prop :=
  ∀ s t : State, s.Inv → step s = .next t → t.Inv

/-- "Bit 5 of P is 1 in every reachable state" (10_state.md R26), for the states reachable by Steps and host
transactions, and their memory is canonical. PLP's part is the spec's D13 (log entry 17), that the host writes no
register but PC its D28 (log entry 24), the canonical form the model's (log entry 25). -/
def Obligations.EveryReachableStateMeetsTheInvariant : Prop :=
  ∀ s : State, Reachable s → s.Inv

/-- 60_exceptions.md R278: a step has one outcome only, the next state; so has every instruction, in every state. -/
def Obligations.EveryStepAndInstructionCompletes : Prop :=
  (∀ s : State, ∃ t, step s = .next t) ∧ ∀ (i : Instr) (s : State), ∃ t, exec i s = .next t

/-- 60_exceptions.md R271 and R293: while Halted is 1 a Step changes nothing, and only the host's clear of Halted ends
it. The clear of Halted alone keeps everything else, Cycles too; the clear of Cycles alone keeps Halted. The halted Step
is the spec's D27 (log entry 18); that the two clears are offered one by one is log entry 30. -/
def Obligations.StepWhileHaltedChangesNothing : Prop :=
  (∀ s : State, s.halted = true → step s = .next s ∧
    ∀ (act : HostAction) (t : State), hostAct act s = .next t →
      t.halted = true ∨ act = .clearHalted ∨ act = .clearRunState) ∧
  ∀ s : State, hostAct .clearHalted s = .next { s with halted := false } ∧
    hostAct .clearCycles s = .next { s with cycles := 0 }

/-- 60_exceptions.md R270: the Step of a running core fetches the instruction's bytes from PC, moves PC past them,
adds one to Cycles and executes the decoded instruction; on a byte outside `OPSET` only the opcode byte is fetched.
One of the two is always so, and the Step completes. That `exec` gets the state with the whole instruction fetched
is log entry 10 (D23), the decoder's name for a byte outside `OPSET` log entry 11. -/
def Obligations.StepRunsTheDecodedInstruction : Prop :=
  ∀ s : State, s.halted = false →
    (∀ (i : Instr) (rest : List Byte), decode s.params (bytesAtPc s) = .ok (i, rest) →
      i.wellFormed s.params = true ∧
      step s = exec i { s with pc := s.pc + BitVec.ofNat 16 i.length, cycles := s.cycles + 1 }) ∧
    (∀ op : Byte, decode s.params (bytesAtPc s) = .error (.notInOpset op) →
      op = s.memRead s.pc ∧ step s = .next { s with pc := s.pc + 1#16, cycles := s.cycles + 1 }) ∧
    decode s.params (bytesAtPc s) ≠ .error .truncated ∧ ∃ t, step s = .next t

/-- 49_stack_transfer_flag_system.md R262: an undefined opcode byte, one of the 105 or one outside `OPSET`, changes
nothing but PC (+ 1) and Cycles (+ 1). Which bytes are the 105 is the spec's D1 (log entry 8), `OPSET` and its
omitted bytes are log entries 2 and 11. -/
def Obligations.UndefinedOpcodeIsAOneByteNop : Prop :=
  undefinedBytes.length = 105 ∧
  ∀ s : State, s.halted = false →
    (s.memRead s.pc ∈ undefinedBytes ∨ s.params.omits (s.memRead s.pc) = true) →
    step s = .next { s with pc := s.pc + 1#16, cycles := s.cycles + 1 }

/-- 10_state.md R31: every Step of a running core adds exactly one to Cycles. That Cycles has no bound is the
spec's D15 (log entry 19). -/
def Obligations.EveryRunningStepCountsOne : Prop :=
  ∀ s : State, s.halted = false → ∃ t, step s = .next t ∧ t.cycles = s.cycles + 1

/-- 10_state.md R30: "BRK is the only thing that sets it": a Step of a running core ends with Halted set exactly
when the opcode byte is that of BRK and in `OPSET`. That the byte is 0x00 is the spec's D1 (log entry 8), `OPSET`
its D2 (log entry 2). -/
def Obligations.OnlyBrkHaltsTheCore : Prop :=
  ∀ s t : State, s.halted = false → step s = .next t →
    (t.halted = true ↔ s.memRead s.pc = 0x00#8 ∧ s.params.omits 0x00#8 = false)

/-- 10_state.md R38 and log entry 1: the parameters are constant, under every Step and every host transaction. -/
def Obligations.ParametersNeverChange : Prop :=
  ∀ s t : State, (step s = .next t ∨ ∃ act, hostAct act s = .next t) → t.params = s.params

/-- 10_state.md R37: no rule makes program-visible state depend on Cycles. -/
def Obligations.NothingDependsOnCycles : Prop :=
  ∀ (s t : State) (n : Nat), step s = .next t →
    step { s with cycles := n } = .next { t with cycles := n + (t.cycles - s.cycles) }

/-- 10_state.md R29: I, D and B are stored bits that change nothing the core does. Two states that differ in them
alone step to states that differ in them alone; PHP, the one reader of the three (R28), is excepted. The spec's D14
and D17 (log entries 18 and 20); that PHP is the byte 0x08 is its D1 (log entry 8). -/
def Obligations.StoredFlagsInfluenceNothing : Prop :=
  ∀ s t s' : State, AgreeExceptIDB s t → s.memRead s.pc ≠ 0x08#8 → step s = .next s' →
    ∃ t', step t = .next t' ∧ AgreeExceptIDB s' t'

/-! Memory, the stack and the fetch. -/

/-- 20_memory.md R52, R53, R60: a write changes exactly one cell and nothing else of the state. Addresses modulo
65536 are the spec's D9 (log entry 15). -/
def Obligations.WriteChangesExactlyOneCell : Prop :=
  ∀ (s : State) (addr other : Word) (v : Byte),
    let t := s.memWrite addr v
    t.memRead addr = v ∧ (other ≠ addr → t.memRead other = s.memRead other) ∧ t = { s with mem := t.mem }

/-- Log entry 25: two canonical memories that read alike at every address are the same list. -/
def Obligations.CanonicalMemoriesThatReadAlikeAreEqual : Prop :=
  ∀ m m' : Memory, m.wf = true → m'.wf = true → (∀ a, a < 65536 → m.read a = m'.read a) → m = m'

/-- 10_state.md R33, R34, R35: Push8 and Pull8, with SP wrapping modulo 256 and every access in page one. -/
def Obligations.PushAndPullWorkOnPageOne : Prop :=
  ∀ (s : State) (v : Byte),
    (let t := push8 v s
     cell t (0x0100 + s.sp.toNat) = v.toNat ∧ t.sp.toNat = (s.sp.toNat + 255) % 256 ∧
     (∀ addr : Word, addr.toNat ≠ 0x0100 + s.sp.toNat → t.memRead addr = s.memRead addr) ∧
     t = { s with sp := t.sp, mem := t.mem }) ∧
    (let r := pull8 s
     r.2.sp.toNat = (s.sp.toNat + 1) % 256 ∧ r.1.toNat = cell s (0x0100 + (s.sp.toNat + 1) % 256) ∧
     r.2 = { s with sp := r.2.sp })

/-- 49_stack_transfer_flag_system.md R234 (c), (d): last in, first out, for every SP; 256 pushes return SP to its
start and have overwritten every cell of the stack page. -/
def Obligations.StackIsLastInFirstOut : Prop :=
  (∀ (s : State) (v1 v2 : Byte),
    let pushed := push8 v2 (push8 v1 s)
    let first := pull8 pushed
    let second := pull8 first.2
    first.1 = v2 ∧ second.1 = v1 ∧ second.2.sp = s.sp ∧ second.2.mem = pushed.mem) ∧
  ∀ (s : State) (vs : List Byte), vs.length = 256 →
    let t := vs.foldl (fun t v => push8 v t) s
    t.sp = s.sp ∧ ∀ (k : Nat) (h : k < vs.length), t.memRead (stackAddress (s.sp - BitVec.ofNat 8 k)) = vs[k]

/-- 30_encoding.md R83, R84: Fetch8 and Fetch16. The spec marks the low byte's place in R84 as derived. -/
def Obligations.FetchReadsAtPcAndAdvances : Prop :=
  ∀ s : State,
    (fetch8 s).1.toNat = cell s s.pc.toNat ∧
    (fetch8 s).2 = { s with pc := BitVec.ofNat 16 (s.pc.toNat + 1) } ∧
    (fetch16 s).1.toNat = cell s (s.pc.toNat + 1) * 256 + cell s s.pc.toNat ∧
    (fetch16 s).2 = { s with pc := BitVec.ofNat 16 (s.pc.toNat + 2) }

/-- 20_memory.md R70, which the spec derives: a store is seen by the very next fetch. Bytes stored at PC are what
the next Step decodes; `exec` gets the whole instruction fetched (log entry 10). -/
def Obligations.NextStepRunsWhatWasStoredAtPc : Prop :=
  ∀ (s : State) (b0 b1 b2 : Byte) (i : Instr) (rest : List Byte),
    s.halted = false → decode s.params [b0, b1, b2] = .ok (i, rest) →
    step (s.placeAtPc b0 b1 b2) =
      exec i { s.placeAtPc b0 b1 b2 with pc := s.pc + BitVec.ofNat 16 i.length, cycles := s.cycles + 1 }

/-! Addressing. -/

/-- 40_addressing.md R121, R122, R125 to R132: the effective address of each of the eight memory modes, with its wraps,
and the operand byte of each operand form. The wraps and the pointer order are the spec's D9, D10 and D20 (log
entry 15). -/
def Obligations.EffectiveAddressesAndOperands : Prop :=
  ∀ (s : State) (b : Byte) (w : Word),
    (s.effectiveAddress (.zeroPage b)).toNat = b.toNat ∧
    (s.effectiveAddress (.zeroPageX b)).toNat = (b.toNat + s.x.toNat) % 256 ∧
    (s.effectiveAddress (.zeroPageY b)).toNat = (b.toNat + s.y.toNat) % 256 ∧
    (s.effectiveAddress (.absolute w)).toNat = w.toNat ∧
    (s.effectiveAddress (.absoluteX w)).toNat = (w.toNat + s.x.toNat) % 65536 ∧
    (s.effectiveAddress (.absoluteY w)).toNat = (w.toNat + s.y.toNat) % 65536 ∧
    (s.effectiveAddress (.indirectX b)).toNat =
      cell s ((b.toNat + s.x.toNat + 1) % 256) * 256 + cell s ((b.toNat + s.x.toNat) % 256) ∧
    (s.effectiveAddress (.indirectY b)).toNat =
      (cell s ((b.toNat + 1) % 256) * 256 + cell s b.toNat + s.y.toNat) % 65536 ∧
    s.operand (.immediate b) = b ∧ s.operand .accumulator = s.a ∧
    ∀ m, s.operand (.memory m) = s.memRead (s.effectiveAddress m)

/-! Flags. -/

/-- 10_state.md R25: the bit of each flag, and the byte value of P in a state whose bit 5 is set. -/
def Obligations.StatusByteIsTheSumOfItsFlags : Prop :=
  ∀ s : State, s.p[5] = true →
    s.p.toNat = bit s .negative * 128 + bit s .overflow * 64 + 32 + bit s .brk * 16 + bit s .decimal * 8 +
      bit s .interruptDisable * 4 + bit s .zero * 2 + bit s .carry

/-- 10_state.md R27: SetZN writes Z and N together and no other bit of P. Which instructions apply it is the
spec's D3 (log entry 16). -/
def Obligations.SetZnWritesZeroAndNegativeOnly : Prop :=
  ∀ (s : State) (v : Byte),
    let t := s.setZN v
    ZnOf t v ∧ (∀ f, f ≠ .zero → f ≠ .negative → t.flag f = s.flag f) ∧ t.p[5] = s.p[5] ∧ t = { s with p := t.p }

/-! Frames: what each of the 256 instructions leaves unchanged when `exec` gives a next state. -/

/-- 10_state.md R21, R22: A, X, Y and SP change only in the instructions that write them. The spec takes the
operations it lists from general knowledge (D18, log entry 9). -/
def Obligations.RegistersChangeOnlyWhereNamed : Prop :=
  ∀ (i : Instr) (s t : State), exec i s = .next t →
    (writesA i = false → t.a = s.a) ∧ (writesX i = false → t.x = s.x) ∧
    (writesY i = false → t.y = s.y) ∧ (writesSp i = false → t.sp = s.sp)

/-- 10_state.md R26, R28: a flag changes only in the instructions that write it; bit 5 of P changes in none but PLP
and RTI, which set it. The lists are the spec's D3, D13 and D14 (log entries 16 to 18). -/
def Obligations.FlagsChangeOnlyWhereNamed : Prop :=
  ∀ (i : Instr) (s t : State), exec i s = .next t →
    (∀ f, writesFlag f i = false → t.flag f = s.flag f) ∧
    (isOneOf i [.plp, .rti] = false → t.p[5] = s.p[5]) ∧ (isOneOf i [.plp, .rti] = true → t.p[5] = true)

/-- 20_memory.md R58, R60: every byte of memory is unchanged except at the addresses the instruction stores to. -/
def Obligations.MemoryChangesOnlyWhereStored : Prop :=
  ∀ (i : Instr) (s t : State), exec i s = .next t →
    ∀ addr : Word, addr ∉ storedAddresses i s → t.memRead addr = s.memRead addr

/-- 10_state.md R24, R30, R31: beyond the fetch, PC changes only in a control transfer, Halted only in BRK, and
Cycles and the parameters in no instruction. Where the fetch ends is log entry 10, the parameters in State are log
entry 1. -/
def Obligations.ControlStateChangesOnlyWhereNamed : Prop :=
  ∀ (i : Instr) (s t : State), exec i s = .next t →
    (writesPc i = false → t.pc = s.pc) ∧ (i ≠ .brk → t.halted = s.halted) ∧
    t.cycles = s.cycles ∧ t.params = s.params

/-! Results: what each instruction computes, on every form and in every state. -/

/-- 41_load_store.md R140 to R142: LDA, LDX and LDY. The spec takes the operation from general knowledge (D18,
log entry 9) and decides that they apply SetZN (D3, log entry 16). -/
def Obligations.LoadsCopyTheOperandAndSetZn : Prop :=
  ∀ (s : State) (b : Byte) (w : Word),
    (∀ f ∈ ldaForms b w, ∃ t, exec f.1 s = .next t ∧ t.a = s.operand f.2 ∧ ZnOf t t.a) ∧
    (∀ f ∈ ldxForms b w, ∃ t, exec f.1 s = .next t ∧ t.x = s.operand f.2 ∧ ZnOf t t.x) ∧
    (∀ f ∈ ldyForms b w, ∃ t, exec f.1 s = .next t ∧ t.y = s.operand f.2 ∧ ZnOf t t.y)

/-- 41_load_store.md R143 to R145: STA, STX and STY write one cell and change nothing else. The spec takes the
operation from general knowledge (D18, log entry 9); that a store sets no flag is its D3, against the literal source (C4,
log entry 16). -/
def Obligations.StoresWriteTheRegisterAtTheEffectiveAddress : Prop :=
  ∀ (s : State) (b : Byte) (w : Word),
    (∀ f ∈ staForms b w, ∃ t, exec f.1 s = .next t ∧ t.memRead (s.effectiveAddress f.2) = s.a ∧
      OtherCellsKept (s.effectiveAddress f.2) s t ∧ t = { s with mem := t.mem }) ∧
    (∀ f ∈ stxForms b w, ∃ t, exec f.1 s = .next t ∧ t.memRead (s.effectiveAddress f.2) = s.x ∧
      OtherCellsKept (s.effectiveAddress f.2) s t ∧ t = { s with mem := t.mem }) ∧
    (∀ f ∈ styForms b w, ∃ t, exec f.1 s = .next t ∧ t.memRead (s.effectiveAddress f.2) = s.y ∧
      OtherCellsKept (s.effectiveAddress f.2) s t ∧ t = { s with mem := t.mem })

/-- 42_arithmetic.md R150: ADC in the words of its rule: sum, flags, and nothing else written; and its opcode bytes,
which are the spec's D1 (log entry 8). -/
def Obligations.AdcAddsWithCarry : Prop :=
  ∀ (s : State) (b : Byte) (w : Word),
    (adcForms b w).map (fun f => codeOf f.1) =
      [(0x69#8, 2), (0x65#8, 2), (0x75#8, 2), (0x6D#8, 3), (0x7D#8, 3), (0x79#8, 3), (0x61#8, 2), (0x71#8, 2)] ∧
    ∀ f ∈ adcForms b w, ∃ t,
      exec f.1 s = .next t ∧
      (let o := s.operand f.2
       let result := s.a.toNat + o.toNat + bit s .carry
       t.a.toNat = result % 256 ∧ t.flag .carry = decide (255 < result) ∧
       t.flag .overflow = (~~~(s.a ^^^ o) &&& (s.a ^^^ t.a) &&& 0x80#8 != 0x00#8) ∧ ZnOf t t.a) ∧
      OtherFlagsKept [.carry, .overflow, .zero, .negative] s t ∧ t = { s with a := t.a, p := t.p }

/-- 42_arithmetic.md R151: SBC in the words of its rule: difference, flags, and nothing else written; and its opcode
bytes, which are the spec's D1 (log entry 8). -/
def Obligations.SbcSubtractsWithBorrow : Prop :=
  ∀ (s : State) (b : Byte) (w : Word),
    (sbcForms b w).map (fun f => codeOf f.1) =
      [(0xE9#8, 2), (0xE5#8, 2), (0xF5#8, 2), (0xED#8, 3), (0xFD#8, 3), (0xF9#8, 3), (0xE1#8, 2), (0xF1#8, 2)] ∧
    ∀ f ∈ sbcForms b w, ∃ t,
      exec f.1 s = .next t ∧
      (let o := s.operand f.2
       let result : Int := (s.a.toNat : Int) - o.toNat - (1 - bit s .carry)
       (t.a.toNat : Int) = result % 256 ∧ t.flag .carry = decide (0 ≤ result) ∧
       t.flag .overflow = ((s.a ^^^ o) &&& (s.a ^^^ t.a) &&& 0x80#8 != 0x00#8) ∧ ZnOf t t.a) ∧
      OtherFlagsKept [.carry, .overflow, .zero, .negative] s t ∧ t = { s with a := t.a, p := t.p }

/-- 42_arithmetic.md R152 (d), (e): C reports the unsigned outcome and V the signed one, for ADC and SBC. -/
def Obligations.CarryIsUnsignedAndOverflowSigned : Prop :=
  ∀ (s : State) (b : Byte) (w : Word),
    (∀ f ∈ adcForms b w, ∀ t, exec f.1 s = .next t →
      t.a.toNat + 256 * bit t .carry = s.a.toNat + (s.operand f.2).toNat + bit s .carry ∧
      (t.flag .overflow = true ↔
        signed s.a + signed (s.operand f.2) + bit s .carry < -128 ∨
        127 < signed s.a + signed (s.operand f.2) + bit s .carry)) ∧
    (∀ f ∈ sbcForms b w, ∀ t, exec f.1 s = .next t →
      (t.a.toNat : Int) - 256 * (1 - bit t .carry) = (s.a.toNat : Int) - (s.operand f.2).toNat - (1 - bit s .carry) ∧
      (t.flag .overflow = true ↔
        signed s.a - signed (s.operand f.2) - (1 - bit s .carry) < -128 ∨
        127 < signed s.a - signed (s.operand f.2) - (1 - bit s .carry)))

/-- 42_arithmetic.md R156: SBC with operand `o` is ADC with operand `o ^ 0xFF`, on every operand form. -/
def Obligations.SbcIsAdcOfTheComplement : Prop :=
  (∀ (s : State) (v : Byte), exec (.sbcImm v) s = exec (.adcImm (v ^^^ 0xFF#8)) s) ∧
  ∀ (s : State) (b : Byte) (w : Word), ∀ f ∈ sbcForms b w,
    exec f.1 s = exec (.adcImm (s.operand f.2 ^^^ 0xFF#8)) s

/-- 43_bitwise.md R160 to R162: AND, ORA and EOR. The spec takes the operation from general knowledge (D18, log
entry 9) and decides that they apply SetZN (D3, log entry 16). -/
def Obligations.BitwiseInstructionsCombineWithA : Prop :=
  ∀ (s : State) (b : Byte) (w : Word),
    (∀ f ∈ andForms b w, ∃ t, exec f.1 s = .next t ∧ t.a = s.a &&& s.operand f.2 ∧ ZnOf t t.a) ∧
    (∀ f ∈ oraForms b w, ∃ t, exec f.1 s = .next t ∧ t.a = s.a ||| s.operand f.2 ∧ ZnOf t t.a) ∧
    (∀ f ∈ eorForms b w, ∃ t, exec f.1 s = .next t ∧ t.a = s.a ^^^ s.operand f.2 ∧ ZnOf t t.a)

/-- 44_shift_rotate.md R170 to R173: on A and on memory, each shift and rotate as an equation of the nine bits of carry
and value. The spec takes the operation from general knowledge (D18, log entry 9) and decides that they apply SetZN (D3,
log entry 16). -/
def Obligations.ShiftsAndRotatesMoveOneBitThroughCarry : Prop :=
  ∀ (s : State) (b : Byte) (w : Word),
    (∀ f ∈ aslForms b w, ∃ t, exec f.1 s = .next t ∧
      (resultAt s t f.2).toNat + 256 * bit t .carry = 2 * (s.readTarget f.2).toNat ∧ ZnOf t (resultAt s t f.2)) ∧
    (∀ f ∈ lsrForms b w, ∃ t, exec f.1 s = .next t ∧
      2 * (resultAt s t f.2).toNat + bit t .carry = (s.readTarget f.2).toNat ∧ ZnOf t (resultAt s t f.2)) ∧
    (∀ f ∈ rolForms b w, ∃ t, exec f.1 s = .next t ∧
      (resultAt s t f.2).toNat + 256 * bit t .carry = 2 * (s.readTarget f.2).toNat + bit s .carry ∧
      ZnOf t (resultAt s t f.2)) ∧
    (∀ f ∈ rorForms b w, ∃ t, exec f.1 s = .next t ∧
      2 * (resultAt s t f.2).toNat + bit t .carry = (s.readTarget f.2).toNat + 256 * bit s .carry ∧
      ZnOf t (resultAt s t f.2))

/-- 45_inc_dec.md R180 to R185: INC and DEC on a memory cell, INX, INY, DEX and DEY on X and Y, all modulo 256.
The spec takes the operation from general knowledge (D18, log entry 9) and decides that they apply SetZN (D3, log
entry 16). -/
def Obligations.IncrementsAndDecrementsWrapModulo256 : Prop :=
  ∀ (s : State) (b : Byte) (w : Word),
    (∀ f ∈ incForms b w, ∃ t, exec f.1 s = .next t ∧
      (let r := t.memRead (s.effectiveAddress f.2)
       r.toNat = ((s.memRead (s.effectiveAddress f.2)).toNat + 1) % 256 ∧ ZnOf t r)) ∧
    (∀ f ∈ decForms b w, ∃ t, exec f.1 s = .next t ∧
      (let r := t.memRead (s.effectiveAddress f.2)
       r.toNat = ((s.memRead (s.effectiveAddress f.2)).toNat + 255) % 256 ∧ ZnOf t r)) ∧
    (∃ t, exec .inx s = .next t ∧ t.x.toNat = (s.x.toNat + 1) % 256 ∧ ZnOf t t.x) ∧
    (∃ t, exec .iny s = .next t ∧ t.y.toNat = (s.y.toNat + 1) % 256 ∧ ZnOf t t.y) ∧
    (∃ t, exec .dex s = .next t ∧ t.x.toNat = (s.x.toNat + 255) % 256 ∧ ZnOf t t.x) ∧
    (∃ t, exec .dey s = .next t ∧ t.y.toNat = (s.y.toNat + 255) % 256 ∧ ZnOf t t.y)

/-- 46_compare_bit.md R190 to R192, R197: CMP, CPX and CPY: flags, and no register or cell written; and their opcode
bytes, which are the spec's D1 (log entry 8). -/
def Obligations.ComparisonsSetCarryZeroNegative : Prop :=
  ∀ (s : State) (b : Byte) (w : Word),
    (cmpForms b w).map (fun f => codeOf f.1) =
      [(0xC9#8, 2), (0xC5#8, 2), (0xD5#8, 2), (0xCD#8, 3), (0xDD#8, 3), (0xD9#8, 3), (0xC1#8, 2), (0xD1#8, 2)] ∧
    (cpxForms b w).map (fun f => codeOf f.1) = [(0xE0#8, 2), (0xE4#8, 2), (0xEC#8, 3)] ∧
    (cpyForms b w).map (fun f => codeOf f.1) = [(0xC0#8, 2), (0xC4#8, 2), (0xCC#8, 3)] ∧
    (∀ f ∈ cmpForms b w, ∃ t, exec f.1 s = .next t ∧ t = { s with p := t.p } ∧
      t.flag .carry = decide ((s.operand f.2).toNat ≤ s.a.toNat) ∧ ZnOf t (s.a - s.operand f.2) ∧
      OtherFlagsKept [.carry, .zero, .negative] s t) ∧
    (∀ f ∈ cpxForms b w, ∃ t, exec f.1 s = .next t ∧ t = { s with p := t.p } ∧
      t.flag .carry = decide ((s.operand f.2).toNat ≤ s.x.toNat) ∧ ZnOf t (s.x - s.operand f.2) ∧
      OtherFlagsKept [.carry, .zero, .negative] s t) ∧
    (∀ f ∈ cpyForms b w, ∃ t, exec f.1 s = .next t ∧ t = { s with p := t.p } ∧
      t.flag .carry = decide ((s.operand f.2).toNat ≤ s.y.toNat) ∧ ZnOf t (s.y - s.operand f.2) ∧
      OtherFlagsKept [.carry, .zero, .negative] s t)

/-- 46_compare_bit.md R193: BIT. The spec takes the operation from general knowledge (D18, log entry 9); that BIT
sets Z and N by its own rule and not by SetZN is its D3 (log entry 16). -/
def Obligations.BitTestsAgainstMemory : Prop :=
  ∀ (s : State) (b : Byte) (w : Word), ∀ f ∈ bitForms b w, ∃ t,
    exec f.1 s = .next t ∧ t = { s with p := t.p } ∧
    (let m := s.memRead (s.effectiveAddress f.2)
     t.flag .zero = decide ((s.a &&& m).toNat = 0) ∧ t.flag .negative = m[7] ∧ t.flag .overflow = m[6])

/-- 47_branch.md R201 to R209: the eight branches; each changes PC alone. The spec takes the eight conditions
from general knowledge (D19, log entry 9). -/
def Obligations.BranchesTestOneFlagAndMovePc : Prop :=
  ∀ (s : State) (offset : Byte),
    exec (.bpl offset) s = .next (branched (!s.flag .negative) offset s) ∧
    exec (.bmi offset) s = .next (branched (s.flag .negative) offset s) ∧
    exec (.bvc offset) s = .next (branched (!s.flag .overflow) offset s) ∧
    exec (.bvs offset) s = .next (branched (s.flag .overflow) offset s) ∧
    exec (.bcc offset) s = .next (branched (!s.flag .carry) offset s) ∧
    exec (.bcs offset) s = .next (branched (s.flag .carry) offset s) ∧
    exec (.bne offset) s = .next (branched (!s.flag .zero) offset s) ∧
    exec (.beq offset) s = .next (branched (s.flag .zero) offset s)

/-- 48_jump_call_return.md R215, R216 and 40_addressing.md R133: JMP in both modes, and both values of
`JMP_IND_PAGE_WRAP`. The spec decides the two readings (D11, log entry 3) and takes JMP from general knowledge
(D18, log entry 9). -/
def Obligations.JumpsReplacePc : Prop :=
  ∀ (s : State) (w : Word),
    exec (.jmpAbs w) s = .next { s with pc := w } ∧
    ∃ t, exec (.jmpInd w) s = .next { s with pc := t } ∧
      (s.params.jmpIndPageWrap = false →
        t.toNat = cell s ((w.toNat + 1) % 65536) * 256 + cell s w.toNat) ∧
      (s.params.jmpIndPageWrap = true →
        t.toNat = cell s (w.toNat / 256 * 256 + (w.toNat % 256 + 1) % 256) * 256 + cell s w.toNat)

/-- 48_jump_call_return.md R217: JSR. PC is past both operand bytes. That the operand is fetched first is the
spec's D23 (log entry 10); that JSR sets no flag is its D3, against the literal source (C4, log entry 16). -/
def Obligations.JsrPushesTheReturnWordHighFirst : Prop :=
  ∀ (s : State) (target : Word), ∃ t, exec (.jsr target) s = .next t ∧ t.pc = target ∧
    t.sp.toNat = (s.sp.toNat + 254) % 256 ∧
    (let r := (s.pc.toNat + 65535) % 65536
     cell t (0x0100 + s.sp.toNat) = r / 256 ∧ cell t (0x0100 + (s.sp.toNat + 255) % 256) = r % 256) ∧
    t = { s with pc := t.pc, sp := t.sp, mem := t.mem }

/-- 48_jump_call_return.md R218, R219: RTS and RTI; the pulled cells keep their contents. That RTI takes B as
pulled is the spec's D13 (log entry 17); that Z and N are then the pulled ones is its D3 (C4, log entry 16). -/
def Obligations.ReturnsPullPcLowByteFirst : Prop :=
  ∀ s : State,
    (∃ t, exec .rts s = .next t ∧ t.sp.toNat = (s.sp.toNat + 2) % 256 ∧
      t.pc.toNat = (cell s (0x0100 + (s.sp.toNat + 1) % 256) + cell s (0x0100 + (s.sp.toNat + 2) % 256) * 256 + 1) % 65536 ∧
      t = { s with pc := t.pc, sp := t.sp }) ∧
    (∃ t, exec .rti s = .next t ∧ t.sp.toNat = (s.sp.toNat + 3) % 256 ∧
      t.p = s.memRead (BitVec.ofNat 16 (0x0100 + (s.sp.toNat + 1) % 256)) ||| 0x20#8 ∧
      t.pc.toNat = cell s (0x0100 + (s.sp.toNat + 2) % 256) + cell s (0x0100 + (s.sp.toNat + 3) % 256) * 256 ∧
      t = { s with pc := t.pc, sp := t.sp, p := t.p })

/-- 48_jump_call_return.md R220: when SP and the two stack cells are as JSR left them, RTS resumes after the JSR and
restores SP, for every SP. -/
def Obligations.RtsUndoesJsr : Prop :=
  ∀ (s t u : State) (target : Word), exec (.jsr target) s = .next t →
    u.sp = t.sp → u.memRead (stackAddress s.sp) = t.memRead (stackAddress s.sp) →
    u.memRead (stackAddress (s.sp - 1#8)) = t.memRead (stackAddress (s.sp - 1#8)) →
    ∃ v, exec .rts u = .next v ∧ v.pc = s.pc ∧ v.sp = s.sp

/-- 60_exceptions.md R285: RTI consumes the frame a program builds: PC high byte, PC low byte, status byte. That
RTI takes B as pulled is the spec's D13 (log entry 17), that Z and N are the pulled ones its D3 (C4, log entry 16). -/
def Obligations.RtiConsumesASoftwareFrame : Prop :=
  ∀ (s : State) (target : Word) (status : Byte),
    ∃ v, exec .rti (push8 status (push8 (lowByte target) (push8 (highByte target) s))) = .next v ∧
      v.pc = target ∧ v.p = status ||| 0x20#8 ∧ v.sp = s.sp

/-- 49_stack_transfer_flag_system.md R230 to R233: PHA, PHP, PLA and PLP, with both values of `PHP_PUSH_OR`; a push
writes one cell and a pull none. The spec takes the operations from general knowledge (D18, log entry 9) and
decides what PHP pushes and PLP loads (D12, D13, log entries 4 and 17). That PHA and PHP set no flag, PLA applies SetZN
and PLP takes Z and N as pulled is its D3, against the literal source (C4, log entry 16). -/
def Obligations.StackInstructionsMoveAAndP : Prop :=
  ∀ s : State,
    (∃ t, exec .pha s = .next t ∧ cell t (0x0100 + s.sp.toNat) = s.a.toNat ∧
      t.sp.toNat = (s.sp.toNat + 255) % 256 ∧ OtherCellsKept (stackAddress s.sp) s t ∧
      t = { s with sp := t.sp, mem := t.mem }) ∧
    (∃ t, exec .php s = .next t ∧
      cell t (0x0100 + s.sp.toNat) = (s.p ||| if s.params.phpPushesBreak then 0x10#8 else 0x00#8).toNat ∧
      t.sp.toNat = (s.sp.toNat + 255) % 256 ∧ OtherCellsKept (stackAddress s.sp) s t ∧
      t = { s with sp := t.sp, mem := t.mem }) ∧
    (∃ t, exec .pla s = .next t ∧ t.a.toNat = cell s (0x0100 + (s.sp.toNat + 1) % 256) ∧ ZnOf t t.a ∧
      t.sp.toNat = (s.sp.toNat + 1) % 256 ∧ t = { s with a := t.a, p := t.p, sp := t.sp }) ∧
    (∃ t, exec .plp s = .next t ∧
      t.p = s.memRead (BitVec.ofNat 16 (0x0100 + (s.sp.toNat + 1) % 256)) ||| 0x20#8 ∧
      t.sp.toNat = (s.sp.toNat + 1) % 256 ∧ t = { s with p := t.p, sp := t.sp })

/-- 49_stack_transfer_flag_system.md R234 (a), (b): a pull undoes its push when SP and the cell are as the push left
them; with `PHP_PUSH_OR` = 0x10 PLP restores P with B set. It rests on the spec's D12 and D13 (log entries 4 and
17), its D3 for the flags (log entry 16) and its D18 for the operations (log entry 9). -/
def Obligations.PullUndoesPush : Prop :=
  (∀ s t u : State, exec .pha s = .next t → u.sp = t.sp →
    u.memRead (stackAddress s.sp) = t.memRead (stackAddress s.sp) →
    ∃ v, exec .pla u = .next v ∧ v.a = s.a ∧ v.sp = s.sp ∧ ZnOf v s.a) ∧
  (∀ s t u : State, s.p[5] = true → exec .php s = .next t → u.sp = t.sp →
    u.memRead (stackAddress s.sp) = t.memRead (stackAddress s.sp) →
    ∃ v, exec .plp u = .next v ∧ v.sp = s.sp ∧
      v.p = if s.params.phpPushesBreak then s.p ||| 0x10#8 else s.p)

/-- 49_stack_transfer_flag_system.md R240 to R245: the transfers; TXS alone sets no flag. The spec takes the
operations from general knowledge and decides TXS (D18, D3, log entries 9 and 16). -/
def Obligations.TransfersCopyARegister : Prop :=
  ∀ s : State,
    (∃ t, exec .tax s = .next t ∧ t.x = s.a ∧ ZnOf t s.a) ∧
    (∃ t, exec .txa s = .next t ∧ t.a = s.x ∧ ZnOf t s.x) ∧
    (∃ t, exec .tay s = .next t ∧ t.y = s.a ∧ ZnOf t s.a) ∧
    (∃ t, exec .tya s = .next t ∧ t.a = s.y ∧ ZnOf t s.y) ∧
    (∃ t, exec .tsx s = .next t ∧ t.x = s.sp ∧ ZnOf t s.sp) ∧
    exec .txs s = .next { s with sp := s.x }

/-- 49_stack_transfer_flag_system.md R250 to R256: each flag instruction writes exactly one bit of P. The spec
takes the operation from general knowledge (D18, log entry 9). -/
def Obligations.FlagInstructionsWriteOneBit : Prop :=
  ∀ s : State,
    exec .clc s = .next { s with p := s.p &&& 0xFE#8 } ∧
    exec .sec s = .next { s with p := s.p ||| 0x01#8 } ∧
    exec .cli s = .next { s with p := s.p &&& 0xFB#8 } ∧
    exec .sei s = .next { s with p := s.p ||| 0x04#8 } ∧
    exec .clv s = .next { s with p := s.p &&& 0xBF#8 } ∧
    exec .cld s = .next { s with p := s.p &&& 0xF7#8 } ∧
    exec .sed s = .next { s with p := s.p ||| 0x08#8 }

/-- 49_stack_transfer_flag_system.md R259, R260, R262: NOP and each of the 105 undefined instructions do nothing
beyond the fetch; BRK sets Halted and nothing else. NOP is the spec's D18 (log entry 9), that BRK does no more its D14
(log entry 18), which bytes are the 105 its D1 (log entry 8). -/
def Obligations.NopAndUndefinedDoNothingAndBrkHalts : Prop :=
  ∀ s : State, exec .nop s = .next s ∧ exec .brk s = .next { s with halted := true } ∧
    ∀ i ∈ undefinedInstrs, exec i s = .next s

/-! Encoding. -/

/-- 30_encoding.md R80, R81, R87, R90: decoding an encoded well-formed instruction gives it back, with every operand at
every value, whatever bytes follow. The opcode bytes are the spec's D1 (log entry 8). -/
def Obligations.DecodeOfEncodeIsTheInstruction : Prop :=
  ∀ (c : Params) (i : Instr) (rest : List Byte), i.wellFormed c = true → decode c (encode i ++ rest) = .ok (i, rest)

/-- 30_encoding.md R85, R87, R93: decoding is total on three bytes: it names a byte outside `OPSET`, or gives a
well-formed instruction whose encoding is exactly the bytes it took. The rejection by name is the model's (D2,
log entries 2 and 11). -/
def Obligations.EveryByteStringHasOneMeaning : Prop :=
  ∀ (c : Params) (op b1 b2 : Byte) (rest : List Byte),
    (c.omits op = true ∧ decode c (op :: b1 :: b2 :: rest) = .error (.notInOpset op)) ∨
    (c.omits op = false ∧ ∃ (i : Instr) (after : List Byte),
      decode c (op :: b1 :: b2 :: rest) = .ok (i, after) ∧ i.wellFormed c = true ∧
      encode i ++ after = op :: b1 :: b2 :: rest)

/-- 30_encoding.md R86: the length follows from the opcode byte alone, and is one more than the mode's operand bytes. -/
def Obligations.LengthFollowsFromTheOpcodeByte : Prop :=
  ∀ i j : Instr, i.opcode = j.opcode →
    i.length = j.length ∧ i.mode = j.mode ∧ i.mnemonic = j.mnemonic ∧ i.length = 1 + i.mode.operandSize

/-- 30_encoding.md R88, R90: the table's 151 opcode bytes are distinct, none is undefined, and each decodes to its own
mnemonic and mode. The opcode bytes are the spec's D1 (log entry 8). -/
def Obligations.OpcodeTableMatchesTheDecoder : Prop :=
  encodingTable.length = 151 ∧ (encodingTable.map fun row => row.2.2).Nodup ∧
  ∀ row ∈ encodingTable, row.2.2 ∉ undefinedBytes ∧
    ∀ b1 b2 : Byte, ∃ (i : Instr) (rest : List Byte), decode standardParams [row.2.2, b1, b2] = .ok (i, rest) ∧
      i.mnemonic = some row.1 ∧ i.mode = row.2.1

/-- 30_encoding.md R90, R85: words written out from the table decode to the instructions they stand for. The
opcode bytes are the spec's D1 (log entry 8). -/
def Obligations.SampleWordsDecode : Prop :=
  decode standardParams [0xB1#8, 0x86#8] = .ok (.ldaIzy 0x86#8, []) ∧
  decode standardParams [0x8D#8, 0x34#8, 0x12#8] = .ok (.staAbs 0x1234#16, []) ∧
  decode standardParams [0x69#8, 0x01#8] = .ok (.adcImm 0x01#8, []) ∧
  decode standardParams [0xD0#8, 0x80#8] = .ok (.bne 0x80#8, []) ∧
  decode standardParams [0x6C#8, 0x20#8, 0x01#8] = .ok (.jmpInd 0x0120#16, []) ∧
  decode standardParams [0x20#8, 0x00#8, 0x07#8] = .ok (.jsr 0x0700#16, []) ∧
  decode standardParams [0x6A#8] = .ok (.rorAcc, []) ∧
  decode standardParams [0x02#8, 0xA9#8] = .ok (.undef02, [0xA9#8])

/-- 30_encoding.md R109: the assembler's encoder emits nothing exactly when the record's mnemonic is unknown or has
no encoding in its mode; otherwise its bytes decode to one instruction with that opcode byte, mnemonic and mode, and
with the record's operand as its operand bytes, little-endian and cut to the mode's width. The lookup finds every
row of the table, and every mnemonic in capitals and in small letters. The opcode bytes are the spec's D1 (log entry
8), the mode of a branch its D24 (log entry 27). -/
def Obligations.AssembledBytesDecodeToTheRecord : Prop :=
  (∀ r : AsmInstr,
    (encodeRecord r = [] ↔
      ∀ m, mnemonicOf r.mnemonic = some m → opcodeFor m (encoderMode m r.mode) = none) ∧
    ∀ (m : Mnemonic) (op : Byte), mnemonicOf r.mnemonic = some m → opcodeFor m (encoderMode m r.mode) = some op →
      ∃ i : Instr, decode standardParams (encodeRecord r) = .ok (i, []) ∧ i.opcode = op ∧ i.mnemonic = some m ∧
        i.mode = encoderMode m r.mode ∧ (encode i).tail = littleEndian i.mode.operandSize r.operand) ∧
  (∀ row ∈ encodingTable, opcodeFor row.1 row.2.1 = some row.2.2) ∧
  mnemonicNames.length = 56 ∧
  ∀ row ∈ mnemonicNames, mnemonicOf row.1 = some row.2 ∧ mnemonicOf (row.1.map Char.toLower) = some row.2

/-! The host. -/

/-- 70_reset_and_hazards.md R310: Load copies the buffer and changes nothing else. -/
def Obligations.LoadCopiesTheBuffer : Prop :=
  ∀ (s : State) (origin : Nat) (buf : List Byte), origin ≤ 65535 → origin + buf.length ≤ 65536 →
    ∃ t, hostLoad origin buf s = .next t ∧
      (∀ (k : Nat) (h : k < buf.length), t.memRead (BitVec.ofNat 16 (origin + k)) = buf[k]) ∧
      (∀ addr : Word, addr.toNat < origin ∨ origin + buf.length ≤ addr.toNat → t.memRead addr = s.memRead addr) ∧
      t = { s with mem := t.mem }

/-- 70_reset_and_hazards.md R311: a Load or a SetPC outside its precondition is refused. The spec's D21 (log
entry 22). -/
def Obligations.RequestsOutsideMemoryAreRefused : Prop :=
  ∀ (s : State) (n : Int) (buf : List Byte),
    (n < 0 ∨ 65535 < n ∨ 65536 < n + buf.length → hostLoad n buf s = .refused .loadOutsideMemory) ∧
    (n < 0 ∨ 65535 < n → hostSetPc n s = .refused .setPcOutsideMemory)

/-- 70_reset_and_hazards.md R312, R313, R315, R316: SetPC, after which the opcode is fetched from the address,
ClearRunState, ReadByte and IsHalted. -/
def Obligations.HostAccessorsDoWhatTheyName : Prop :=
  ∀ s : State,
    (∀ addr : Word, hostSetPc addr.toNat s = .next { s with pc := addr } ∧
      (fetch8 { s with pc := addr }).1 = s.memRead addr) ∧
    clearRunState s = { s with halted := false, cycles := 0 } ∧
    (∀ addr : Word, readByte addr.toNat s = s.memRead addr) ∧
    (∀ n : Int, n < 0 ∨ 65535 < n → readByte n s = 0x00#8) ∧
    isHalted s = s.halted

/-- 60_exceptions.md R272: both tests are made before every Step, the first one included. The spec's D16 (log
entry 23). -/
def Obligations.RunIsTheGuardedLoopOfStep : Prop :=
  ∀ (s : State) (ceiling : Nat),
    (s.halted = true ∨ ceiling ≤ s.cycles → run ceiling s = .next s) ∧
    (s.halted = false → s.cycles < ceiling → ∃ t, step s = .next t ∧ run ceiling s = run ceiling t)

/-- 60_exceptions.md R273, R274: every Run returns, with Halted set or the ceiling reached, and cannot pass the
ceiling. It rests on the spec's D16 (log entry 23). -/
def Obligations.EveryRunReturnsAtHaltOrCeiling : Prop :=
  ∀ (s : State) (ceiling : Nat), ∃ t, run ceiling s = .next t ∧
    (t.halted = true ∨ ceiling ≤ t.cycles) ∧ s.cycles ≤ t.cycles ∧ (s.cycles ≤ ceiling → t.cycles ≤ ceiling)

/-- Every host transaction keeps the invariant: bit 5 of P stays 1 (10_state.md R26), because no transaction writes P
(70_reset_and_hazards.md R320; D28, log entry 24), and memory stays in the canonical form, which is the model's (log
entry 25). -/
def Obligations.HostTransactionsKeepTheInvariant : Prop :=
  ∀ (act : HostAction) (s t : State), s.Inv → hostAct act s = .next t → t.Inv
end

