-- ==== Sys2Proof/Laws/Bits.lean ====
section
/-! SUPPORT. What the byte-order and extension helpers are as numbers, and case analysis over a byte. -/

namespace Sys2Proof.Machine

theorem wordOf_toNat (h l : Byte) : (wordOf h l).toNat = h.toNat * 256 + l.toNat := by
  have hl := l.isLt
  simp only [wordOf, BitVec.toNat_append, Nat.shiftLeft_eq]
  rw [Nat.mul_comm, ← Nat.two_pow_add_eq_or_of_lt hl]

theorem lowByte_toNat (w : Word) : (lowByte w).toNat = w.toNat % 256 := by
  simp [lowByte]

theorem highByte_toNat (w : Word) : (highByte w).toNat = w.toNat / 256 := by
  have hw := w.isLt
  simp only [highByte, BitVec.toNat_setWidth, BitVec.toNat_ushiftRight, Nat.shiftRight_eq_div_pow]
  omega

theorem zeroExtend_toNat (b : Byte) : (zeroExtend b).toNat = b.toNat := by
  have hb := b.isLt
  simp only [zeroExtend, BitVec.toNat_setWidth]
  omega

/-- A word is put together again from its two bytes. -/
@[simp] theorem wordOf_highByte_lowByte (w : Word) : wordOf (highByte w) (lowByte w) = w := by
  apply BitVec.eq_of_toNat_eq
  rw [wordOf_toNat, highByte_toNat, lowByte_toNat]
  omega

@[simp] theorem lowByte_wordOf (h l : Byte) : lowByte (wordOf h l) = l := by
  have hl := l.isLt
  apply BitVec.eq_of_toNat_eq
  rw [lowByte_toNat, wordOf_toNat]
  omega

@[simp] theorem highByte_wordOf (h l : Byte) : highByte (wordOf h l) = h := by
  have hl := l.isLt
  apply BitVec.eq_of_toNat_eq
  rw [highByte_toNat, wordOf_toNat]
  omega

/-- A fact about every byte, from the 256 numerals. -/
theorem byte_cases {motive : Byte → Prop} (h : ∀ n : Fin 256, motive (BitVec.ofNat 8 n)) (b : Byte) : motive b := by
  simpa using h ⟨b.toNat, b.isLt⟩

end Sys2Proof.Machine
end

