-- ==== Sys2Proof/Laws/Memory.lean ====
section
/-! SUPPORT. The laws of memory: a read after a write, and the canonical form that every operation keeps. -/

namespace Sys2Proof.Machine

@[simp] theorem Memory.read_nil (a : Nat) : Memory.read [] a = unlistedByte := rfl

theorem Memory.read_insert (m : Memory) (a b : Nat) (v : Byte) :
    (Memory.insert m a v).read b = if a = b then v else m.read b := by
  induction m with
  | nil => simp [Memory.insert, Memory.read]
  | cons c rest ih =>
    obtain ⟨k, w⟩ := c
    simp only [Memory.insert]
    split
    · simp [Memory.read]
    · split
      · next h => subst h; by_cases hb : a = b <;> simp [Memory.read, hb]
      · next h1 h2 =>
        by_cases hk : k = b
        · simp [Memory.read, hk, show a ≠ b from fun h => h2 (h.trans hk.symm)]
        · simp [Memory.read, hk, ih]

theorem Memory.read_erase (m : Memory) (a b : Nat) :
    (Memory.erase m a).read b = if a = b then unlistedByte else m.read b := by
  induction m with
  | nil => simp [Memory.erase]
  | cons c rest ih =>
    obtain ⟨k, w⟩ := c
    simp only [Memory.erase] at ih ⊢
    by_cases hk : k = a
    · subst hk
      by_cases hb : k = b <;> simp_all [Memory.read]
    · by_cases hb : k = b
      · subst hb; simp [Memory.read, hk, Ne.symm hk]
      · simp [Memory.read, hk, hb, ih]

/-- A read after a write: the written byte at the written address, the old byte elsewhere (20_memory.md R60, R66). -/
theorem Memory.read_write (m : Memory) (a b : Nat) (v : Byte) :
    (m.write a v).read b = if a = b then v else m.read b := by
  unfold Memory.write
  split
  · next h => rw [Memory.read_erase, h]
  · exact Memory.read_insert m a b v

theorem Memory.canonicalFrom_mono {lo lo' : Nat} {m : Memory} (h : lo' ≤ lo)
    (hm : Memory.canonicalFrom lo m = true) : Memory.canonicalFrom lo' m = true := by
  cases m with
  | nil => rfl
  | cons c rest =>
    simp only [Memory.canonicalFrom, Bool.and_eq_true, decide_eq_true_eq] at hm ⊢
    exact ⟨⟨⟨h.trans hm.1.1.1, hm.1.1.2⟩, hm.1.2⟩, hm.2⟩

theorem Memory.canonicalFrom_insert {lo a : Nat} {v : Byte} {m : Memory} (hlo : lo ≤ a) (ha : a < 65536)
    (hv : v ≠ unlistedByte) (hm : Memory.canonicalFrom lo m = true) :
    Memory.canonicalFrom lo (Memory.insert m a v) = true := by
  induction m generalizing lo with
  | nil => simp [Memory.insert, Memory.canonicalFrom, hlo, ha, hv]
  | cons c rest ih =>
    obtain ⟨k, w⟩ := c
    simp only [Memory.canonicalFrom, Bool.and_eq_true, decide_eq_true_eq, bne_iff_ne] at hm
    obtain ⟨⟨⟨h1, h2⟩, h3⟩, h4⟩ := hm
    simp only [Memory.insert]
    split
    · next h => simp [Memory.canonicalFrom, hlo, ha, hv, h2, h3, h4, Nat.succ_le_of_lt h]
    · split
      · next h => subst h; simp [Memory.canonicalFrom, hlo, ha, hv, h4]
      · next g1 g2 =>
        have := ih (lo := k + 1) (by omega) h4
        simp [Memory.canonicalFrom, h1, h2, h3, this]

theorem Memory.canonicalFrom_erase {lo a : Nat} {m : Memory} (hm : Memory.canonicalFrom lo m = true) :
    Memory.canonicalFrom lo (Memory.erase m a) = true := by
  induction m generalizing lo with
  | nil => rfl
  | cons c rest ih =>
    obtain ⟨k, w⟩ := c
    simp only [Memory.canonicalFrom, Bool.and_eq_true, decide_eq_true_eq] at hm
    obtain ⟨⟨⟨h1, h2⟩, h3⟩, h4⟩ := hm
    by_cases hk : k = a
    · have : Memory.erase ((k, w) :: rest) a = Memory.erase rest a := by simp [Memory.erase, hk]
      rw [this]
      exact Memory.canonicalFrom_mono (by omega) (ih h4)
    · have : Memory.erase ((k, w) :: rest) a = (k, w) :: Memory.erase rest a := by simp [Memory.erase, hk]
      rw [this]
      simp [Memory.canonicalFrom, h1, h2, h3, ih h4]

@[simp] theorem Memory.wf_nil : Memory.wf [] = true := rfl

/-- Every write inside the address space keeps the canonical form. -/
theorem Memory.wf_write {a : Nat} {m : Memory} (v : Byte) (ha : a < 65536) (hm : m.wf = true) :
    (m.write a v).wf = true := by
  unfold Memory.write Memory.wf
  split
  · exact Memory.canonicalFrom_erase hm
  · next hv => exact Memory.canonicalFrom_insert (Nat.zero_le a) ha hv hm

end Sys2Proof.Machine
end

