-- ==== Sys2Proof/Laws/State.lean ====
section
/-! SUPPORT. One lemma per field per update of State, so that no later proof unfolds a record update. -/

namespace Sys2Proof.Machine

@[simp] theorem State.setA_a (s : State) (v : Byte) : (s.setA v).a = v := rfl
@[simp] theorem State.setA_x (s : State) (v : Byte) : (s.setA v).x = s.x := rfl
@[simp] theorem State.setA_y (s : State) (v : Byte) : (s.setA v).y = s.y := rfl
@[simp] theorem State.setA_sp (s : State) (v : Byte) : (s.setA v).sp = s.sp := rfl
@[simp] theorem State.setA_pc (s : State) (v : Byte) : (s.setA v).pc = s.pc := rfl
@[simp] theorem State.setA_p (s : State) (v : Byte) : (s.setA v).p = s.p := rfl
@[simp] theorem State.setA_mem (s : State) (v : Byte) : (s.setA v).mem = s.mem := rfl
@[simp] theorem State.setA_halted (s : State) (v : Byte) : (s.setA v).halted = s.halted := rfl
@[simp] theorem State.setA_cycles (s : State) (v : Byte) : (s.setA v).cycles = s.cycles := rfl
@[simp] theorem State.setA_params (s : State) (v : Byte) : (s.setA v).params = s.params := rfl

@[simp] theorem State.setX_a (s : State) (v : Byte) : (s.setX v).a = s.a := rfl
@[simp] theorem State.setX_x (s : State) (v : Byte) : (s.setX v).x = v := rfl
@[simp] theorem State.setX_y (s : State) (v : Byte) : (s.setX v).y = s.y := rfl
@[simp] theorem State.setX_sp (s : State) (v : Byte) : (s.setX v).sp = s.sp := rfl
@[simp] theorem State.setX_pc (s : State) (v : Byte) : (s.setX v).pc = s.pc := rfl
@[simp] theorem State.setX_p (s : State) (v : Byte) : (s.setX v).p = s.p := rfl
@[simp] theorem State.setX_mem (s : State) (v : Byte) : (s.setX v).mem = s.mem := rfl
@[simp] theorem State.setX_halted (s : State) (v : Byte) : (s.setX v).halted = s.halted := rfl
@[simp] theorem State.setX_cycles (s : State) (v : Byte) : (s.setX v).cycles = s.cycles := rfl
@[simp] theorem State.setX_params (s : State) (v : Byte) : (s.setX v).params = s.params := rfl

@[simp] theorem State.setY_a (s : State) (v : Byte) : (s.setY v).a = s.a := rfl
@[simp] theorem State.setY_x (s : State) (v : Byte) : (s.setY v).x = s.x := rfl
@[simp] theorem State.setY_y (s : State) (v : Byte) : (s.setY v).y = v := rfl
@[simp] theorem State.setY_sp (s : State) (v : Byte) : (s.setY v).sp = s.sp := rfl
@[simp] theorem State.setY_pc (s : State) (v : Byte) : (s.setY v).pc = s.pc := rfl
@[simp] theorem State.setY_p (s : State) (v : Byte) : (s.setY v).p = s.p := rfl
@[simp] theorem State.setY_mem (s : State) (v : Byte) : (s.setY v).mem = s.mem := rfl
@[simp] theorem State.setY_halted (s : State) (v : Byte) : (s.setY v).halted = s.halted := rfl
@[simp] theorem State.setY_cycles (s : State) (v : Byte) : (s.setY v).cycles = s.cycles := rfl
@[simp] theorem State.setY_params (s : State) (v : Byte) : (s.setY v).params = s.params := rfl

@[simp] theorem State.setSp_a (s : State) (v : Byte) : (s.setSp v).a = s.a := rfl
@[simp] theorem State.setSp_x (s : State) (v : Byte) : (s.setSp v).x = s.x := rfl
@[simp] theorem State.setSp_y (s : State) (v : Byte) : (s.setSp v).y = s.y := rfl
@[simp] theorem State.setSp_sp (s : State) (v : Byte) : (s.setSp v).sp = v := rfl
@[simp] theorem State.setSp_pc (s : State) (v : Byte) : (s.setSp v).pc = s.pc := rfl
@[simp] theorem State.setSp_p (s : State) (v : Byte) : (s.setSp v).p = s.p := rfl
@[simp] theorem State.setSp_mem (s : State) (v : Byte) : (s.setSp v).mem = s.mem := rfl
@[simp] theorem State.setSp_halted (s : State) (v : Byte) : (s.setSp v).halted = s.halted := rfl
@[simp] theorem State.setSp_cycles (s : State) (v : Byte) : (s.setSp v).cycles = s.cycles := rfl
@[simp] theorem State.setSp_params (s : State) (v : Byte) : (s.setSp v).params = s.params := rfl

@[simp] theorem State.setPc_a (s : State) (v : Word) : (s.setPc v).a = s.a := rfl
@[simp] theorem State.setPc_x (s : State) (v : Word) : (s.setPc v).x = s.x := rfl
@[simp] theorem State.setPc_y (s : State) (v : Word) : (s.setPc v).y = s.y := rfl
@[simp] theorem State.setPc_sp (s : State) (v : Word) : (s.setPc v).sp = s.sp := rfl
@[simp] theorem State.setPc_pc (s : State) (v : Word) : (s.setPc v).pc = v := rfl
@[simp] theorem State.setPc_p (s : State) (v : Word) : (s.setPc v).p = s.p := rfl
@[simp] theorem State.setPc_mem (s : State) (v : Word) : (s.setPc v).mem = s.mem := rfl
@[simp] theorem State.setPc_halted (s : State) (v : Word) : (s.setPc v).halted = s.halted := rfl
@[simp] theorem State.setPc_cycles (s : State) (v : Word) : (s.setPc v).cycles = s.cycles := rfl
@[simp] theorem State.setPc_params (s : State) (v : Word) : (s.setPc v).params = s.params := rfl

@[simp] theorem State.setP_a (s : State) (v : Byte) : (s.setP v).a = s.a := rfl
@[simp] theorem State.setP_x (s : State) (v : Byte) : (s.setP v).x = s.x := rfl
@[simp] theorem State.setP_y (s : State) (v : Byte) : (s.setP v).y = s.y := rfl
@[simp] theorem State.setP_sp (s : State) (v : Byte) : (s.setP v).sp = s.sp := rfl
@[simp] theorem State.setP_pc (s : State) (v : Byte) : (s.setP v).pc = s.pc := rfl
@[simp] theorem State.setP_p (s : State) (v : Byte) : (s.setP v).p = v := rfl
@[simp] theorem State.setP_mem (s : State) (v : Byte) : (s.setP v).mem = s.mem := rfl
@[simp] theorem State.setP_halted (s : State) (v : Byte) : (s.setP v).halted = s.halted := rfl
@[simp] theorem State.setP_cycles (s : State) (v : Byte) : (s.setP v).cycles = s.cycles := rfl
@[simp] theorem State.setP_params (s : State) (v : Byte) : (s.setP v).params = s.params := rfl

@[simp] theorem State.setMem_a (s : State) (m : Memory) : (s.setMem m).a = s.a := rfl
@[simp] theorem State.setMem_x (s : State) (m : Memory) : (s.setMem m).x = s.x := rfl
@[simp] theorem State.setMem_y (s : State) (m : Memory) : (s.setMem m).y = s.y := rfl
@[simp] theorem State.setMem_sp (s : State) (m : Memory) : (s.setMem m).sp = s.sp := rfl
@[simp] theorem State.setMem_pc (s : State) (m : Memory) : (s.setMem m).pc = s.pc := rfl
@[simp] theorem State.setMem_p (s : State) (m : Memory) : (s.setMem m).p = s.p := rfl
@[simp] theorem State.setMem_mem (s : State) (m : Memory) : (s.setMem m).mem = m := rfl
@[simp] theorem State.setMem_halted (s : State) (m : Memory) : (s.setMem m).halted = s.halted := rfl
@[simp] theorem State.setMem_cycles (s : State) (m : Memory) : (s.setMem m).cycles = s.cycles := rfl
@[simp] theorem State.setMem_params (s : State) (m : Memory) : (s.setMem m).params = s.params := rfl

@[simp] theorem State.halt_a (s : State) : s.halt.a = s.a := rfl
@[simp] theorem State.halt_x (s : State) : s.halt.x = s.x := rfl
@[simp] theorem State.halt_y (s : State) : s.halt.y = s.y := rfl
@[simp] theorem State.halt_sp (s : State) : s.halt.sp = s.sp := rfl
@[simp] theorem State.halt_pc (s : State) : s.halt.pc = s.pc := rfl
@[simp] theorem State.halt_p (s : State) : s.halt.p = s.p := rfl
@[simp] theorem State.halt_mem (s : State) : s.halt.mem = s.mem := rfl
@[simp] theorem State.halt_halted (s : State) : s.halt.halted = true := rfl
@[simp] theorem State.halt_cycles (s : State) : s.halt.cycles = s.cycles := rfl
@[simp] theorem State.halt_params (s : State) : s.halt.params = s.params := rfl

@[simp] theorem State.clearHalted_a (s : State) : s.clearHalted.a = s.a := rfl
@[simp] theorem State.clearHalted_x (s : State) : s.clearHalted.x = s.x := rfl
@[simp] theorem State.clearHalted_y (s : State) : s.clearHalted.y = s.y := rfl
@[simp] theorem State.clearHalted_sp (s : State) : s.clearHalted.sp = s.sp := rfl
@[simp] theorem State.clearHalted_pc (s : State) : s.clearHalted.pc = s.pc := rfl
@[simp] theorem State.clearHalted_p (s : State) : s.clearHalted.p = s.p := rfl
@[simp] theorem State.clearHalted_mem (s : State) : s.clearHalted.mem = s.mem := rfl
@[simp] theorem State.clearHalted_halted (s : State) : s.clearHalted.halted = false := rfl
@[simp] theorem State.clearHalted_cycles (s : State) : s.clearHalted.cycles = s.cycles := rfl
@[simp] theorem State.clearHalted_params (s : State) : s.clearHalted.params = s.params := rfl

@[simp] theorem State.clearCycles_a (s : State) : s.clearCycles.a = s.a := rfl
@[simp] theorem State.clearCycles_x (s : State) : s.clearCycles.x = s.x := rfl
@[simp] theorem State.clearCycles_y (s : State) : s.clearCycles.y = s.y := rfl
@[simp] theorem State.clearCycles_sp (s : State) : s.clearCycles.sp = s.sp := rfl
@[simp] theorem State.clearCycles_pc (s : State) : s.clearCycles.pc = s.pc := rfl
@[simp] theorem State.clearCycles_p (s : State) : s.clearCycles.p = s.p := rfl
@[simp] theorem State.clearCycles_mem (s : State) : s.clearCycles.mem = s.mem := rfl
@[simp] theorem State.clearCycles_halted (s : State) : s.clearCycles.halted = s.halted := rfl
@[simp] theorem State.clearCycles_cycles (s : State) : s.clearCycles.cycles = 0 := rfl
@[simp] theorem State.clearCycles_params (s : State) : s.clearCycles.params = s.params := rfl

@[simp] theorem State.countCycle_a (s : State) : s.countCycle.a = s.a := rfl
@[simp] theorem State.countCycle_x (s : State) : s.countCycle.x = s.x := rfl
@[simp] theorem State.countCycle_y (s : State) : s.countCycle.y = s.y := rfl
@[simp] theorem State.countCycle_sp (s : State) : s.countCycle.sp = s.sp := rfl
@[simp] theorem State.countCycle_pc (s : State) : s.countCycle.pc = s.pc := rfl
@[simp] theorem State.countCycle_p (s : State) : s.countCycle.p = s.p := rfl
@[simp] theorem State.countCycle_mem (s : State) : s.countCycle.mem = s.mem := rfl
@[simp] theorem State.countCycle_halted (s : State) : s.countCycle.halted = s.halted := rfl
@[simp] theorem State.countCycle_cycles (s : State) : s.countCycle.cycles = s.cycles + 1 := rfl
@[simp] theorem State.countCycle_params (s : State) : s.countCycle.params = s.params := rfl

@[simp] theorem State.create_a (sp : Byte) (pc : Word) (c : Params) : (State.create sp pc c).a = 0x00#8 := rfl
@[simp] theorem State.create_x (sp : Byte) (pc : Word) (c : Params) : (State.create sp pc c).x = 0x00#8 := rfl
@[simp] theorem State.create_y (sp : Byte) (pc : Word) (c : Params) : (State.create sp pc c).y = 0x00#8 := rfl
@[simp] theorem State.create_sp (sp : Byte) (pc : Word) (c : Params) : (State.create sp pc c).sp = sp := rfl
@[simp] theorem State.create_pc (sp : Byte) (pc : Word) (c : Params) : (State.create sp pc c).pc = pc := rfl
@[simp] theorem State.create_p (sp : Byte) (pc : Word) (c : Params) : (State.create sp pc c).p = 0x20#8 := rfl
@[simp] theorem State.create_mem (sp : Byte) (pc : Word) (c : Params) : (State.create sp pc c).mem = [] := rfl
@[simp] theorem State.create_halted (sp : Byte) (pc : Word) (c : Params) : (State.create sp pc c).halted = false := rfl
@[simp] theorem State.create_cycles (sp : Byte) (pc : Word) (c : Params) : (State.create sp pc c).cycles = 0 := rfl
@[simp] theorem State.create_params (sp : Byte) (pc : Word) (c : Params) : (State.create sp pc c).params = c := rfl

end Sys2Proof.Machine
end

