-- ==== Sys2Proof/Laws/Ops.lean ====
section
/-! SUPPORT. What each shared operation does to each field of State, said once. -/

namespace Sys2Proof.Machine

/-- The read after a write (20_memory.md R66): the written byte at its address, the old byte elsewhere. -/
theorem State.memRead_memWrite (s : State) (a b : Word) (v : Byte) :
    (s.memWrite a v).memRead b = if a = b then v else s.memRead b := by
  simp only [State.memRead, State.memWrite, State.setMem_mem, Memory.read_write, BitVec.toNat_inj]

theorem State.memWrite_wf {s : State} (a : Word) (v : Byte) (h : s.mem.wf = true) :
    (s.memWrite a v).mem.wf = true :=
  Memory.wf_write v a.isLt h

/-- A read depends on memory alone. -/
theorem State.memRead_congr {s t : State} (h : s.mem = t.mem) (a : Word) : s.memRead a = t.memRead a := by
  simp only [State.memRead, h]

@[simp] theorem State.memWrite_a (s : State) (a : Word) (v : Byte) : (s.memWrite a v).a = s.a := rfl
@[simp] theorem State.memWrite_x (s : State) (a : Word) (v : Byte) : (s.memWrite a v).x = s.x := rfl
@[simp] theorem State.memWrite_y (s : State) (a : Word) (v : Byte) : (s.memWrite a v).y = s.y := rfl
@[simp] theorem State.memWrite_sp (s : State) (a : Word) (v : Byte) : (s.memWrite a v).sp = s.sp := rfl
@[simp] theorem State.memWrite_pc (s : State) (a : Word) (v : Byte) : (s.memWrite a v).pc = s.pc := rfl
@[simp] theorem State.memWrite_p (s : State) (a : Word) (v : Byte) : (s.memWrite a v).p = s.p := rfl
@[simp] theorem State.memWrite_halted (s : State) (a : Word) (v : Byte) : (s.memWrite a v).halted = s.halted := rfl
@[simp] theorem State.memWrite_cycles (s : State) (a : Word) (v : Byte) : (s.memWrite a v).cycles = s.cycles := rfl
@[simp] theorem State.memWrite_params (s : State) (a : Word) (v : Byte) : (s.memWrite a v).params = s.params := rfl

@[simp] theorem push8_a (v : Byte) (s : State) : (push8 v s).a = s.a := rfl
@[simp] theorem push8_x (v : Byte) (s : State) : (push8 v s).x = s.x := rfl
@[simp] theorem push8_y (v : Byte) (s : State) : (push8 v s).y = s.y := rfl
@[simp] theorem push8_pc (v : Byte) (s : State) : (push8 v s).pc = s.pc := rfl
@[simp] theorem push8_p (v : Byte) (s : State) : (push8 v s).p = s.p := rfl
@[simp] theorem push8_halted (v : Byte) (s : State) : (push8 v s).halted = s.halted := rfl
@[simp] theorem push8_cycles (v : Byte) (s : State) : (push8 v s).cycles = s.cycles := rfl
@[simp] theorem push8_params (v : Byte) (s : State) : (push8 v s).params = s.params := rfl

@[simp] theorem push8_sp (v : Byte) (s : State) : (push8 v s).sp = s.sp - 1#8 := rfl

@[simp] theorem push8_mem (v : Byte) (s : State) :
    (push8 v s).mem = s.mem.write (stackAddress s.sp).toNat v := rfl

@[simp] theorem pull8_a (s : State) : ((pull8 s).2).a = s.a := rfl
@[simp] theorem pull8_x (s : State) : ((pull8 s).2).x = s.x := rfl
@[simp] theorem pull8_y (s : State) : ((pull8 s).2).y = s.y := rfl
@[simp] theorem pull8_pc (s : State) : ((pull8 s).2).pc = s.pc := rfl
@[simp] theorem pull8_p (s : State) : ((pull8 s).2).p = s.p := rfl
@[simp] theorem pull8_mem (s : State) : ((pull8 s).2).mem = s.mem := rfl
@[simp] theorem pull8_halted (s : State) : ((pull8 s).2).halted = s.halted := rfl
@[simp] theorem pull8_cycles (s : State) : ((pull8 s).2).cycles = s.cycles := rfl
@[simp] theorem pull8_params (s : State) : ((pull8 s).2).params = s.params := rfl

@[simp] theorem pull8_sp (s : State) : (pull8 s).2.sp = s.sp + 1#8 := rfl

@[simp] theorem pull8_byte (s : State) : (pull8 s).1 = s.memRead (stackAddress (s.sp + 1#8)) := rfl

@[simp] theorem pushWord_a (w : Word) (s : State) : (pushWord w s).a = s.a := rfl
@[simp] theorem pushWord_x (w : Word) (s : State) : (pushWord w s).x = s.x := rfl
@[simp] theorem pushWord_y (w : Word) (s : State) : (pushWord w s).y = s.y := rfl
@[simp] theorem pushWord_pc (w : Word) (s : State) : (pushWord w s).pc = s.pc := rfl
@[simp] theorem pushWord_p (w : Word) (s : State) : (pushWord w s).p = s.p := rfl
@[simp] theorem pushWord_halted (w : Word) (s : State) : (pushWord w s).halted = s.halted := rfl
@[simp] theorem pushWord_cycles (w : Word) (s : State) : (pushWord w s).cycles = s.cycles := rfl
@[simp] theorem pushWord_params (w : Word) (s : State) : (pushWord w s).params = s.params := rfl

@[simp] theorem pushWord_sp (w : Word) (s : State) : (pushWord w s).sp = s.sp - 1#8 - 1#8 := rfl

@[simp] theorem pullWord_a (s : State) : ((pullWord s).2).a = s.a := rfl
@[simp] theorem pullWord_x (s : State) : ((pullWord s).2).x = s.x := rfl
@[simp] theorem pullWord_y (s : State) : ((pullWord s).2).y = s.y := rfl
@[simp] theorem pullWord_pc (s : State) : ((pullWord s).2).pc = s.pc := rfl
@[simp] theorem pullWord_p (s : State) : ((pullWord s).2).p = s.p := rfl
@[simp] theorem pullWord_mem (s : State) : ((pullWord s).2).mem = s.mem := rfl
@[simp] theorem pullWord_halted (s : State) : ((pullWord s).2).halted = s.halted := rfl
@[simp] theorem pullWord_cycles (s : State) : ((pullWord s).2).cycles = s.cycles := rfl
@[simp] theorem pullWord_params (s : State) : ((pullWord s).2).params = s.params := rfl

@[simp] theorem pullWord_sp (s : State) : (pullWord s).2.sp = s.sp + 1#8 + 1#8 := rfl

@[simp] theorem pullWord_word (s : State) :
    (pullWord s).1 =
      wordOf (s.memRead (stackAddress (s.sp + 1#8 + 1#8))) (s.memRead (stackAddress (s.sp + 1#8))) := rfl

@[simp] theorem fetch8_a (s : State) : ((fetch8 s).2).a = s.a := rfl
@[simp] theorem fetch8_x (s : State) : ((fetch8 s).2).x = s.x := rfl
@[simp] theorem fetch8_y (s : State) : ((fetch8 s).2).y = s.y := rfl
@[simp] theorem fetch8_sp (s : State) : ((fetch8 s).2).sp = s.sp := rfl
@[simp] theorem fetch8_p (s : State) : ((fetch8 s).2).p = s.p := rfl
@[simp] theorem fetch8_mem (s : State) : ((fetch8 s).2).mem = s.mem := rfl
@[simp] theorem fetch8_halted (s : State) : ((fetch8 s).2).halted = s.halted := rfl
@[simp] theorem fetch8_cycles (s : State) : ((fetch8 s).2).cycles = s.cycles := rfl
@[simp] theorem fetch8_params (s : State) : ((fetch8 s).2).params = s.params := rfl

@[simp] theorem fetch8_pc (s : State) : (fetch8 s).2.pc = s.pc + 1#16 := rfl

@[simp] theorem fetch8_byte (s : State) : (fetch8 s).1 = s.memRead s.pc := rfl

@[simp] theorem fetch16_a (s : State) : ((fetch16 s).2).a = s.a := rfl
@[simp] theorem fetch16_x (s : State) : ((fetch16 s).2).x = s.x := rfl
@[simp] theorem fetch16_y (s : State) : ((fetch16 s).2).y = s.y := rfl
@[simp] theorem fetch16_sp (s : State) : ((fetch16 s).2).sp = s.sp := rfl
@[simp] theorem fetch16_p (s : State) : ((fetch16 s).2).p = s.p := rfl
@[simp] theorem fetch16_mem (s : State) : ((fetch16 s).2).mem = s.mem := rfl
@[simp] theorem fetch16_halted (s : State) : ((fetch16 s).2).halted = s.halted := rfl
@[simp] theorem fetch16_cycles (s : State) : ((fetch16 s).2).cycles = s.cycles := rfl
@[simp] theorem fetch16_params (s : State) : ((fetch16 s).2).params = s.params := rfl

@[simp] theorem fetch16_pc (s : State) : (fetch16 s).2.pc = s.pc + 1#16 + 1#16 := rfl

@[simp] theorem fetch16_word (s : State) :
    (fetch16 s).1 = wordOf (s.memRead (s.pc + 1#16)) (s.memRead s.pc) := rfl

@[simp] theorem State.setFlag_a (s : State) (f : Flag) (b : Bool) : (s.setFlag f b).a = s.a := rfl
@[simp] theorem State.setFlag_x (s : State) (f : Flag) (b : Bool) : (s.setFlag f b).x = s.x := rfl
@[simp] theorem State.setFlag_y (s : State) (f : Flag) (b : Bool) : (s.setFlag f b).y = s.y := rfl
@[simp] theorem State.setFlag_sp (s : State) (f : Flag) (b : Bool) : (s.setFlag f b).sp = s.sp := rfl
@[simp] theorem State.setFlag_pc (s : State) (f : Flag) (b : Bool) : (s.setFlag f b).pc = s.pc := rfl
@[simp] theorem State.setFlag_mem (s : State) (f : Flag) (b : Bool) : (s.setFlag f b).mem = s.mem := rfl
@[simp] theorem State.setFlag_halted (s : State) (f : Flag) (b : Bool) : (s.setFlag f b).halted = s.halted := rfl
@[simp] theorem State.setFlag_cycles (s : State) (f : Flag) (b : Bool) : (s.setFlag f b).cycles = s.cycles := rfl
@[simp] theorem State.setFlag_params (s : State) (f : Flag) (b : Bool) : (s.setFlag f b).params = s.params := rfl

@[simp] theorem State.setZN_a (s : State) (v : Byte) : (s.setZN v).a = s.a := rfl
@[simp] theorem State.setZN_x (s : State) (v : Byte) : (s.setZN v).x = s.x := rfl
@[simp] theorem State.setZN_y (s : State) (v : Byte) : (s.setZN v).y = s.y := rfl
@[simp] theorem State.setZN_sp (s : State) (v : Byte) : (s.setZN v).sp = s.sp := rfl
@[simp] theorem State.setZN_pc (s : State) (v : Byte) : (s.setZN v).pc = s.pc := rfl
@[simp] theorem State.setZN_mem (s : State) (v : Byte) : (s.setZN v).mem = s.mem := rfl
@[simp] theorem State.setZN_halted (s : State) (v : Byte) : (s.setZN v).halted = s.halted := rfl
@[simp] theorem State.setZN_cycles (s : State) (v : Byte) : (s.setZN v).cycles = s.cycles := rfl
@[simp] theorem State.setZN_params (s : State) (v : Byte) : (s.setZN v).params = s.params := rfl

@[simp] theorem State.loadStatus_a (s : State) (v : Byte) : (s.loadStatus v).a = s.a := rfl
@[simp] theorem State.loadStatus_x (s : State) (v : Byte) : (s.loadStatus v).x = s.x := rfl
@[simp] theorem State.loadStatus_y (s : State) (v : Byte) : (s.loadStatus v).y = s.y := rfl
@[simp] theorem State.loadStatus_sp (s : State) (v : Byte) : (s.loadStatus v).sp = s.sp := rfl
@[simp] theorem State.loadStatus_pc (s : State) (v : Byte) : (s.loadStatus v).pc = s.pc := rfl
@[simp] theorem State.loadStatus_mem (s : State) (v : Byte) : (s.loadStatus v).mem = s.mem := rfl
@[simp] theorem State.loadStatus_halted (s : State) (v : Byte) : (s.loadStatus v).halted = s.halted := rfl
@[simp] theorem State.loadStatus_cycles (s : State) (v : Byte) : (s.loadStatus v).cycles = s.cycles := rfl
@[simp] theorem State.loadStatus_params (s : State) (v : Byte) : (s.loadStatus v).params = s.params := rfl

@[simp] theorem State.compare_a (s : State) (r v : Byte) : (s.compare r v).a = s.a := rfl
@[simp] theorem State.compare_x (s : State) (r v : Byte) : (s.compare r v).x = s.x := rfl
@[simp] theorem State.compare_y (s : State) (r v : Byte) : (s.compare r v).y = s.y := rfl
@[simp] theorem State.compare_sp (s : State) (r v : Byte) : (s.compare r v).sp = s.sp := rfl
@[simp] theorem State.compare_pc (s : State) (r v : Byte) : (s.compare r v).pc = s.pc := rfl
@[simp] theorem State.compare_mem (s : State) (r v : Byte) : (s.compare r v).mem = s.mem := rfl
@[simp] theorem State.compare_halted (s : State) (r v : Byte) : (s.compare r v).halted = s.halted := rfl
@[simp] theorem State.compare_cycles (s : State) (r v : Byte) : (s.compare r v).cycles = s.cycles := rfl
@[simp] theorem State.compare_params (s : State) (r v : Byte) : (s.compare r v).params = s.params := rfl

@[simp] theorem State.bitTest_a (s : State) (m : Byte) : (s.bitTest m).a = s.a := rfl
@[simp] theorem State.bitTest_x (s : State) (m : Byte) : (s.bitTest m).x = s.x := rfl
@[simp] theorem State.bitTest_y (s : State) (m : Byte) : (s.bitTest m).y = s.y := rfl
@[simp] theorem State.bitTest_sp (s : State) (m : Byte) : (s.bitTest m).sp = s.sp := rfl
@[simp] theorem State.bitTest_pc (s : State) (m : Byte) : (s.bitTest m).pc = s.pc := rfl
@[simp] theorem State.bitTest_mem (s : State) (m : Byte) : (s.bitTest m).mem = s.mem := rfl
@[simp] theorem State.bitTest_halted (s : State) (m : Byte) : (s.bitTest m).halted = s.halted := rfl
@[simp] theorem State.bitTest_cycles (s : State) (m : Byte) : (s.bitTest m).cycles = s.cycles := rfl
@[simp] theorem State.bitTest_params (s : State) (m : Byte) : (s.bitTest m).params = s.params := rfl

/-- The effective address depends on X, Y and memory alone (40_addressing.md R121). -/
theorem State.effectiveAddress_congr {s t : State} (hx : s.x = t.x) (hy : s.y = t.y) (hm : s.mem = t.mem)
    (m : MemOperand) : s.effectiveAddress m = t.effectiveAddress m := by
  cases m <;> simp only [State.effectiveAddress, State.zeroPagePointer, State.memRead, hx, hy, hm]

/-- The operand byte depends on A, X, Y and memory alone (40_addressing.md R122). -/
theorem State.operand_congr {s t : State} (ha : s.a = t.a) (hx : s.x = t.x) (hy : s.y = t.y) (hm : s.mem = t.mem)
    (o : Operand) : s.operand o = t.operand o := by
  cases o with
  | immediate v => rfl
  | accumulator => exact ha
  | memory m =>
    simp only [State.operand, State.effectiveAddress_congr hx hy hm m, State.memRead_congr hm]

end Sys2Proof.Machine
end

