-- ==== Sys2Proof/Laws/Flags.lean ====
section
/-! SUPPORT. The flags after each flag computation, said once. -/

namespace Sys2Proof.Machine

/-- The flag an assignment names. -/
@[simp] theorem State.flag_setFlag_same (s : State) (f : Flag) (b : Bool) : (s.setFlag f b).flag f = b := by
  have key : ∀ p : Byte, ((if b then p ||| f.mask else p &&& ~~~f.mask) &&& f.mask != 0x00#8) = b := by
    cases f <;> cases b <;> decide
  exact key s.p

/-- Every other flag. -/
theorem State.flag_setFlag_other (s : State) {f g : Flag} (b : Bool) (h : f ≠ g) :
    (s.setFlag f b).flag g = s.flag g := by
  have key : ∀ p : Byte, ((if b then p ||| f.mask else p &&& ~~~f.mask) &&& g.mask != 0x00#8) =
      (p &&& g.mask != 0x00#8) := by
    cases f <;> cases g <;> first | exact absurd rfl h | (cases b <;> decide)
  exact key s.p

/-- Bit 5 of P survives every assignment of a flag (10_state.md R26). -/
@[simp] theorem State.setFlag_unusedBit (s : State) (f : Flag) (b : Bool) :
    (s.setFlag f b).p[5] = s.p[5] := by
  have key : ∀ p : Byte, (if b then p ||| f.mask else p &&& ~~~f.mask)[5] = p[5] := by
    cases f <;> cases b <;> decide
  exact key s.p

/-- A state's flags depend on P alone. -/
theorem State.flag_congr {s t : State} (h : s.p = t.p) (f : Flag) : s.flag f = t.flag f := by
  simp only [State.flag, h]

@[simp] theorem State.flag_setP (s : State) (v : Byte) (f : Flag) :
    (s.setP v).flag f = ((v &&& f.mask) != 0x00#8) := rfl

@[simp] theorem State.flag_setA (s : State) (v : Byte) (f : Flag) : (s.setA v).flag f = s.flag f := rfl
@[simp] theorem State.flag_setX (s : State) (v : Byte) (f : Flag) : (s.setX v).flag f = s.flag f := rfl
@[simp] theorem State.flag_setY (s : State) (v : Byte) (f : Flag) : (s.setY v).flag f = s.flag f := rfl
@[simp] theorem State.flag_setSp (s : State) (v : Byte) (f : Flag) : (s.setSp v).flag f = s.flag f := rfl
@[simp] theorem State.flag_setPc (s : State) (v : Word) (f : Flag) : (s.setPc v).flag f = s.flag f := rfl
@[simp] theorem State.flag_setMem (s : State) (m : Memory) (f : Flag) : (s.setMem m).flag f = s.flag f := rfl
@[simp] theorem State.flag_memWrite (s : State) (a : Word) (v : Byte) (f : Flag) :
    (s.memWrite a v).flag f = s.flag f := rfl
@[simp] theorem State.flag_halt (s : State) (f : Flag) : s.halt.flag f = s.flag f := rfl

/-- SetZN sets Z by its byte (10_state.md R27). -/
@[simp] theorem State.setZN_zero (s : State) (v : Byte) : (s.setZN v).flag .zero = (v == 0x00#8) := by
  simp [State.setZN, State.flag_setFlag_other _ _ (show Flag.negative ≠ Flag.zero by decide)]

/-- SetZN sets N by its byte (10_state.md R27). -/
@[simp] theorem State.setZN_negative (s : State) (v : Byte) : (s.setZN v).flag .negative = v.msb := by
  simp [State.setZN]

/-- SetZN changes no other flag (10_state.md R27). -/
theorem State.setZN_other (s : State) (v : Byte) {f : Flag} (hz : f ≠ .zero) (hn : f ≠ .negative) :
    (s.setZN v).flag f = s.flag f := by
  simp only [State.setZN, State.flag_setFlag_other _ _ (Ne.symm hn), State.flag_setFlag_other _ _ (Ne.symm hz)]

@[simp] theorem State.setZN_unusedBit (s : State) (v : Byte) : (s.setZN v).p[5] = s.p[5] := by
  simp [State.setZN]

/-- PLP and RTI leave bit 5 of P set (10_state.md R26). -/
@[simp] theorem State.loadStatus_unusedBit (s : State) (v : Byte) : (s.loadStatus v).p[5] = true := by
  have key : ∀ v : Byte, (v ||| unusedMask)[5] = true := by decide
  exact key v

end Sys2Proof.Machine
end

