-- ==== Sys2Proof/Laws/Meanings.lean ====
section
/-! SUPPORT. What each family's shared operation leaves unchanged, field by field. -/

namespace Sys2Proof.Machine

@[simp] theorem loadA_x (o : Operand) (s : State) : (loadA o s).x = s.x := rfl
@[simp] theorem loadA_y (o : Operand) (s : State) : (loadA o s).y = s.y := rfl
@[simp] theorem loadA_sp (o : Operand) (s : State) : (loadA o s).sp = s.sp := rfl
@[simp] theorem loadA_pc (o : Operand) (s : State) : (loadA o s).pc = s.pc := rfl
@[simp] theorem loadA_mem (o : Operand) (s : State) : (loadA o s).mem = s.mem := rfl
@[simp] theorem loadA_halted (o : Operand) (s : State) : (loadA o s).halted = s.halted := rfl
@[simp] theorem loadA_cycles (o : Operand) (s : State) : (loadA o s).cycles = s.cycles := rfl
@[simp] theorem loadA_params (o : Operand) (s : State) : (loadA o s).params = s.params := rfl

@[simp] theorem loadX_a (o : Operand) (s : State) : (loadX o s).a = s.a := rfl
@[simp] theorem loadX_y (o : Operand) (s : State) : (loadX o s).y = s.y := rfl
@[simp] theorem loadX_sp (o : Operand) (s : State) : (loadX o s).sp = s.sp := rfl
@[simp] theorem loadX_pc (o : Operand) (s : State) : (loadX o s).pc = s.pc := rfl
@[simp] theorem loadX_mem (o : Operand) (s : State) : (loadX o s).mem = s.mem := rfl
@[simp] theorem loadX_halted (o : Operand) (s : State) : (loadX o s).halted = s.halted := rfl
@[simp] theorem loadX_cycles (o : Operand) (s : State) : (loadX o s).cycles = s.cycles := rfl
@[simp] theorem loadX_params (o : Operand) (s : State) : (loadX o s).params = s.params := rfl

@[simp] theorem loadY_a (o : Operand) (s : State) : (loadY o s).a = s.a := rfl
@[simp] theorem loadY_x (o : Operand) (s : State) : (loadY o s).x = s.x := rfl
@[simp] theorem loadY_sp (o : Operand) (s : State) : (loadY o s).sp = s.sp := rfl
@[simp] theorem loadY_pc (o : Operand) (s : State) : (loadY o s).pc = s.pc := rfl
@[simp] theorem loadY_mem (o : Operand) (s : State) : (loadY o s).mem = s.mem := rfl
@[simp] theorem loadY_halted (o : Operand) (s : State) : (loadY o s).halted = s.halted := rfl
@[simp] theorem loadY_cycles (o : Operand) (s : State) : (loadY o s).cycles = s.cycles := rfl
@[simp] theorem loadY_params (o : Operand) (s : State) : (loadY o s).params = s.params := rfl

@[simp] theorem storeByte_a (m : MemOperand) (v : Byte) (s : State) : (storeByte m v s).a = s.a := rfl
@[simp] theorem storeByte_x (m : MemOperand) (v : Byte) (s : State) : (storeByte m v s).x = s.x := rfl
@[simp] theorem storeByte_y (m : MemOperand) (v : Byte) (s : State) : (storeByte m v s).y = s.y := rfl
@[simp] theorem storeByte_sp (m : MemOperand) (v : Byte) (s : State) : (storeByte m v s).sp = s.sp := rfl
@[simp] theorem storeByte_pc (m : MemOperand) (v : Byte) (s : State) : (storeByte m v s).pc = s.pc := rfl
@[simp] theorem storeByte_p (m : MemOperand) (v : Byte) (s : State) : (storeByte m v s).p = s.p := rfl
@[simp] theorem storeByte_halted (m : MemOperand) (v : Byte) (s : State) : (storeByte m v s).halted = s.halted := rfl
@[simp] theorem storeByte_cycles (m : MemOperand) (v : Byte) (s : State) : (storeByte m v s).cycles = s.cycles := rfl
@[simp] theorem storeByte_params (m : MemOperand) (v : Byte) (s : State) : (storeByte m v s).params = s.params := rfl

@[simp] theorem addWithCarry_x (o : Operand) (s : State) : (addWithCarry o s).x = s.x := rfl
@[simp] theorem addWithCarry_y (o : Operand) (s : State) : (addWithCarry o s).y = s.y := rfl
@[simp] theorem addWithCarry_sp (o : Operand) (s : State) : (addWithCarry o s).sp = s.sp := rfl
@[simp] theorem addWithCarry_pc (o : Operand) (s : State) : (addWithCarry o s).pc = s.pc := rfl
@[simp] theorem addWithCarry_mem (o : Operand) (s : State) : (addWithCarry o s).mem = s.mem := rfl
@[simp] theorem addWithCarry_halted (o : Operand) (s : State) : (addWithCarry o s).halted = s.halted := rfl
@[simp] theorem addWithCarry_cycles (o : Operand) (s : State) : (addWithCarry o s).cycles = s.cycles := rfl
@[simp] theorem addWithCarry_params (o : Operand) (s : State) : (addWithCarry o s).params = s.params := rfl

@[simp] theorem subtractWithCarry_x (o : Operand) (s : State) : (subtractWithCarry o s).x = s.x := rfl
@[simp] theorem subtractWithCarry_y (o : Operand) (s : State) : (subtractWithCarry o s).y = s.y := rfl
@[simp] theorem subtractWithCarry_sp (o : Operand) (s : State) : (subtractWithCarry o s).sp = s.sp := rfl
@[simp] theorem subtractWithCarry_pc (o : Operand) (s : State) : (subtractWithCarry o s).pc = s.pc := rfl
@[simp] theorem subtractWithCarry_mem (o : Operand) (s : State) : (subtractWithCarry o s).mem = s.mem := rfl
@[simp] theorem subtractWithCarry_halted (o : Operand) (s : State) : (subtractWithCarry o s).halted = s.halted := rfl
@[simp] theorem subtractWithCarry_cycles (o : Operand) (s : State) : (subtractWithCarry o s).cycles = s.cycles := rfl
@[simp] theorem subtractWithCarry_params (o : Operand) (s : State) : (subtractWithCarry o s).params = s.params := rfl

@[simp] theorem setLogic_x (r : Byte) (s : State) : (setLogic r s).x = s.x := rfl
@[simp] theorem setLogic_y (r : Byte) (s : State) : (setLogic r s).y = s.y := rfl
@[simp] theorem setLogic_sp (r : Byte) (s : State) : (setLogic r s).sp = s.sp := rfl
@[simp] theorem setLogic_pc (r : Byte) (s : State) : (setLogic r s).pc = s.pc := rfl
@[simp] theorem setLogic_mem (r : Byte) (s : State) : (setLogic r s).mem = s.mem := rfl
@[simp] theorem setLogic_halted (r : Byte) (s : State) : (setLogic r s).halted = s.halted := rfl
@[simp] theorem setLogic_cycles (r : Byte) (s : State) : (setLogic r s).cycles = s.cycles := rfl
@[simp] theorem setLogic_params (r : Byte) (s : State) : (setLogic r s).params = s.params := rfl

@[simp] theorem andWithA_x (o : Operand) (s : State) : (andWithA o s).x = s.x := rfl
@[simp] theorem andWithA_y (o : Operand) (s : State) : (andWithA o s).y = s.y := rfl
@[simp] theorem andWithA_sp (o : Operand) (s : State) : (andWithA o s).sp = s.sp := rfl
@[simp] theorem andWithA_pc (o : Operand) (s : State) : (andWithA o s).pc = s.pc := rfl
@[simp] theorem andWithA_mem (o : Operand) (s : State) : (andWithA o s).mem = s.mem := rfl
@[simp] theorem andWithA_halted (o : Operand) (s : State) : (andWithA o s).halted = s.halted := rfl
@[simp] theorem andWithA_cycles (o : Operand) (s : State) : (andWithA o s).cycles = s.cycles := rfl
@[simp] theorem andWithA_params (o : Operand) (s : State) : (andWithA o s).params = s.params := rfl

@[simp] theorem orWithA_x (o : Operand) (s : State) : (orWithA o s).x = s.x := rfl
@[simp] theorem orWithA_y (o : Operand) (s : State) : (orWithA o s).y = s.y := rfl
@[simp] theorem orWithA_sp (o : Operand) (s : State) : (orWithA o s).sp = s.sp := rfl
@[simp] theorem orWithA_pc (o : Operand) (s : State) : (orWithA o s).pc = s.pc := rfl
@[simp] theorem orWithA_mem (o : Operand) (s : State) : (orWithA o s).mem = s.mem := rfl
@[simp] theorem orWithA_halted (o : Operand) (s : State) : (orWithA o s).halted = s.halted := rfl
@[simp] theorem orWithA_cycles (o : Operand) (s : State) : (orWithA o s).cycles = s.cycles := rfl
@[simp] theorem orWithA_params (o : Operand) (s : State) : (orWithA o s).params = s.params := rfl

@[simp] theorem xorWithA_x (o : Operand) (s : State) : (xorWithA o s).x = s.x := rfl
@[simp] theorem xorWithA_y (o : Operand) (s : State) : (xorWithA o s).y = s.y := rfl
@[simp] theorem xorWithA_sp (o : Operand) (s : State) : (xorWithA o s).sp = s.sp := rfl
@[simp] theorem xorWithA_pc (o : Operand) (s : State) : (xorWithA o s).pc = s.pc := rfl
@[simp] theorem xorWithA_mem (o : Operand) (s : State) : (xorWithA o s).mem = s.mem := rfl
@[simp] theorem xorWithA_halted (o : Operand) (s : State) : (xorWithA o s).halted = s.halted := rfl
@[simp] theorem xorWithA_cycles (o : Operand) (s : State) : (xorWithA o s).cycles = s.cycles := rfl
@[simp] theorem xorWithA_params (o : Operand) (s : State) : (xorWithA o s).params = s.params := rfl

@[simp] theorem updateCell_a (m : MemOperand) (f : Byte → Byte) (s : State) : (updateCell m f s).a = s.a := rfl
@[simp] theorem updateCell_x (m : MemOperand) (f : Byte → Byte) (s : State) : (updateCell m f s).x = s.x := rfl
@[simp] theorem updateCell_y (m : MemOperand) (f : Byte → Byte) (s : State) : (updateCell m f s).y = s.y := rfl
@[simp] theorem updateCell_sp (m : MemOperand) (f : Byte → Byte) (s : State) : (updateCell m f s).sp = s.sp := rfl
@[simp] theorem updateCell_pc (m : MemOperand) (f : Byte → Byte) (s : State) : (updateCell m f s).pc = s.pc := rfl
@[simp] theorem updateCell_halted (m : MemOperand) (f : Byte → Byte) (s : State) : (updateCell m f s).halted = s.halted := rfl
@[simp] theorem updateCell_cycles (m : MemOperand) (f : Byte → Byte) (s : State) : (updateCell m f s).cycles = s.cycles := rfl
@[simp] theorem updateCell_params (m : MemOperand) (f : Byte → Byte) (s : State) : (updateCell m f s).params = s.params := rfl

@[simp] theorem incrementCell_a (m : MemOperand) (s : State) : (incrementCell m s).a = s.a := rfl
@[simp] theorem incrementCell_x (m : MemOperand) (s : State) : (incrementCell m s).x = s.x := rfl
@[simp] theorem incrementCell_y (m : MemOperand) (s : State) : (incrementCell m s).y = s.y := rfl
@[simp] theorem incrementCell_sp (m : MemOperand) (s : State) : (incrementCell m s).sp = s.sp := rfl
@[simp] theorem incrementCell_pc (m : MemOperand) (s : State) : (incrementCell m s).pc = s.pc := rfl
@[simp] theorem incrementCell_halted (m : MemOperand) (s : State) : (incrementCell m s).halted = s.halted := rfl
@[simp] theorem incrementCell_cycles (m : MemOperand) (s : State) : (incrementCell m s).cycles = s.cycles := rfl
@[simp] theorem incrementCell_params (m : MemOperand) (s : State) : (incrementCell m s).params = s.params := rfl

@[simp] theorem decrementCell_a (m : MemOperand) (s : State) : (decrementCell m s).a = s.a := rfl
@[simp] theorem decrementCell_x (m : MemOperand) (s : State) : (decrementCell m s).x = s.x := rfl
@[simp] theorem decrementCell_y (m : MemOperand) (s : State) : (decrementCell m s).y = s.y := rfl
@[simp] theorem decrementCell_sp (m : MemOperand) (s : State) : (decrementCell m s).sp = s.sp := rfl
@[simp] theorem decrementCell_pc (m : MemOperand) (s : State) : (decrementCell m s).pc = s.pc := rfl
@[simp] theorem decrementCell_halted (m : MemOperand) (s : State) : (decrementCell m s).halted = s.halted := rfl
@[simp] theorem decrementCell_cycles (m : MemOperand) (s : State) : (decrementCell m s).cycles = s.cycles := rfl
@[simp] theorem decrementCell_params (m : MemOperand) (s : State) : (decrementCell m s).params = s.params := rfl

@[simp] theorem countX_a (r : Byte) (s : State) : (countX r s).a = s.a := rfl
@[simp] theorem countX_y (r : Byte) (s : State) : (countX r s).y = s.y := rfl
@[simp] theorem countX_sp (r : Byte) (s : State) : (countX r s).sp = s.sp := rfl
@[simp] theorem countX_pc (r : Byte) (s : State) : (countX r s).pc = s.pc := rfl
@[simp] theorem countX_mem (r : Byte) (s : State) : (countX r s).mem = s.mem := rfl
@[simp] theorem countX_halted (r : Byte) (s : State) : (countX r s).halted = s.halted := rfl
@[simp] theorem countX_cycles (r : Byte) (s : State) : (countX r s).cycles = s.cycles := rfl
@[simp] theorem countX_params (r : Byte) (s : State) : (countX r s).params = s.params := rfl

@[simp] theorem countY_a (r : Byte) (s : State) : (countY r s).a = s.a := rfl
@[simp] theorem countY_x (r : Byte) (s : State) : (countY r s).x = s.x := rfl
@[simp] theorem countY_sp (r : Byte) (s : State) : (countY r s).sp = s.sp := rfl
@[simp] theorem countY_pc (r : Byte) (s : State) : (countY r s).pc = s.pc := rfl
@[simp] theorem countY_mem (r : Byte) (s : State) : (countY r s).mem = s.mem := rfl
@[simp] theorem countY_halted (r : Byte) (s : State) : (countY r s).halted = s.halted := rfl
@[simp] theorem countY_cycles (r : Byte) (s : State) : (countY r s).cycles = s.cycles := rfl
@[simp] theorem countY_params (r : Byte) (s : State) : (countY r s).params = s.params := rfl

@[simp] theorem compareA_a (o : Operand) (s : State) : (compareA o s).a = s.a := rfl
@[simp] theorem compareA_x (o : Operand) (s : State) : (compareA o s).x = s.x := rfl
@[simp] theorem compareA_y (o : Operand) (s : State) : (compareA o s).y = s.y := rfl
@[simp] theorem compareA_sp (o : Operand) (s : State) : (compareA o s).sp = s.sp := rfl
@[simp] theorem compareA_pc (o : Operand) (s : State) : (compareA o s).pc = s.pc := rfl
@[simp] theorem compareA_mem (o : Operand) (s : State) : (compareA o s).mem = s.mem := rfl
@[simp] theorem compareA_halted (o : Operand) (s : State) : (compareA o s).halted = s.halted := rfl
@[simp] theorem compareA_cycles (o : Operand) (s : State) : (compareA o s).cycles = s.cycles := rfl
@[simp] theorem compareA_params (o : Operand) (s : State) : (compareA o s).params = s.params := rfl

@[simp] theorem compareX_a (o : Operand) (s : State) : (compareX o s).a = s.a := rfl
@[simp] theorem compareX_x (o : Operand) (s : State) : (compareX o s).x = s.x := rfl
@[simp] theorem compareX_y (o : Operand) (s : State) : (compareX o s).y = s.y := rfl
@[simp] theorem compareX_sp (o : Operand) (s : State) : (compareX o s).sp = s.sp := rfl
@[simp] theorem compareX_pc (o : Operand) (s : State) : (compareX o s).pc = s.pc := rfl
@[simp] theorem compareX_mem (o : Operand) (s : State) : (compareX o s).mem = s.mem := rfl
@[simp] theorem compareX_halted (o : Operand) (s : State) : (compareX o s).halted = s.halted := rfl
@[simp] theorem compareX_cycles (o : Operand) (s : State) : (compareX o s).cycles = s.cycles := rfl
@[simp] theorem compareX_params (o : Operand) (s : State) : (compareX o s).params = s.params := rfl

@[simp] theorem compareY_a (o : Operand) (s : State) : (compareY o s).a = s.a := rfl
@[simp] theorem compareY_x (o : Operand) (s : State) : (compareY o s).x = s.x := rfl
@[simp] theorem compareY_y (o : Operand) (s : State) : (compareY o s).y = s.y := rfl
@[simp] theorem compareY_sp (o : Operand) (s : State) : (compareY o s).sp = s.sp := rfl
@[simp] theorem compareY_pc (o : Operand) (s : State) : (compareY o s).pc = s.pc := rfl
@[simp] theorem compareY_mem (o : Operand) (s : State) : (compareY o s).mem = s.mem := rfl
@[simp] theorem compareY_halted (o : Operand) (s : State) : (compareY o s).halted = s.halted := rfl
@[simp] theorem compareY_cycles (o : Operand) (s : State) : (compareY o s).cycles = s.cycles := rfl
@[simp] theorem compareY_params (o : Operand) (s : State) : (compareY o s).params = s.params := rfl

@[simp] theorem testBits_a (m : MemOperand) (s : State) : (testBits m s).a = s.a := rfl
@[simp] theorem testBits_x (m : MemOperand) (s : State) : (testBits m s).x = s.x := rfl
@[simp] theorem testBits_y (m : MemOperand) (s : State) : (testBits m s).y = s.y := rfl
@[simp] theorem testBits_sp (m : MemOperand) (s : State) : (testBits m s).sp = s.sp := rfl
@[simp] theorem testBits_pc (m : MemOperand) (s : State) : (testBits m s).pc = s.pc := rfl
@[simp] theorem testBits_mem (m : MemOperand) (s : State) : (testBits m s).mem = s.mem := rfl
@[simp] theorem testBits_halted (m : MemOperand) (s : State) : (testBits m s).halted = s.halted := rfl
@[simp] theorem testBits_cycles (m : MemOperand) (s : State) : (testBits m s).cycles = s.cycles := rfl
@[simp] theorem testBits_params (m : MemOperand) (s : State) : (testBits m s).params = s.params := rfl

@[simp] theorem shiftTo_x (t : Target) (b : Bool) (r : Byte) (s : State) : (shiftTo t b r s).x = s.x := by cases t <;> rfl
@[simp] theorem shiftTo_y (t : Target) (b : Bool) (r : Byte) (s : State) : (shiftTo t b r s).y = s.y := by cases t <;> rfl
@[simp] theorem shiftTo_sp (t : Target) (b : Bool) (r : Byte) (s : State) : (shiftTo t b r s).sp = s.sp := by cases t <;> rfl
@[simp] theorem shiftTo_pc (t : Target) (b : Bool) (r : Byte) (s : State) : (shiftTo t b r s).pc = s.pc := by cases t <;> rfl
@[simp] theorem shiftTo_halted (t : Target) (b : Bool) (r : Byte) (s : State) : (shiftTo t b r s).halted = s.halted := by cases t <;> rfl
@[simp] theorem shiftTo_cycles (t : Target) (b : Bool) (r : Byte) (s : State) : (shiftTo t b r s).cycles = s.cycles := by cases t <;> rfl
@[simp] theorem shiftTo_params (t : Target) (b : Bool) (r : Byte) (s : State) : (shiftTo t b r s).params = s.params := by cases t <;> rfl

@[simp] theorem shiftLeft_x (t : Target) (s : State) : (shiftLeft t s).x = s.x := by cases t <;> rfl
@[simp] theorem shiftLeft_y (t : Target) (s : State) : (shiftLeft t s).y = s.y := by cases t <;> rfl
@[simp] theorem shiftLeft_sp (t : Target) (s : State) : (shiftLeft t s).sp = s.sp := by cases t <;> rfl
@[simp] theorem shiftLeft_pc (t : Target) (s : State) : (shiftLeft t s).pc = s.pc := by cases t <;> rfl
@[simp] theorem shiftLeft_halted (t : Target) (s : State) : (shiftLeft t s).halted = s.halted := by cases t <;> rfl
@[simp] theorem shiftLeft_cycles (t : Target) (s : State) : (shiftLeft t s).cycles = s.cycles := by cases t <;> rfl
@[simp] theorem shiftLeft_params (t : Target) (s : State) : (shiftLeft t s).params = s.params := by cases t <;> rfl

@[simp] theorem shiftRight_x (t : Target) (s : State) : (shiftRight t s).x = s.x := by cases t <;> rfl
@[simp] theorem shiftRight_y (t : Target) (s : State) : (shiftRight t s).y = s.y := by cases t <;> rfl
@[simp] theorem shiftRight_sp (t : Target) (s : State) : (shiftRight t s).sp = s.sp := by cases t <;> rfl
@[simp] theorem shiftRight_pc (t : Target) (s : State) : (shiftRight t s).pc = s.pc := by cases t <;> rfl
@[simp] theorem shiftRight_halted (t : Target) (s : State) : (shiftRight t s).halted = s.halted := by cases t <;> rfl
@[simp] theorem shiftRight_cycles (t : Target) (s : State) : (shiftRight t s).cycles = s.cycles := by cases t <;> rfl
@[simp] theorem shiftRight_params (t : Target) (s : State) : (shiftRight t s).params = s.params := by cases t <;> rfl

@[simp] theorem rotateLeft_x (t : Target) (s : State) : (rotateLeft t s).x = s.x := by cases t <;> rfl
@[simp] theorem rotateLeft_y (t : Target) (s : State) : (rotateLeft t s).y = s.y := by cases t <;> rfl
@[simp] theorem rotateLeft_sp (t : Target) (s : State) : (rotateLeft t s).sp = s.sp := by cases t <;> rfl
@[simp] theorem rotateLeft_pc (t : Target) (s : State) : (rotateLeft t s).pc = s.pc := by cases t <;> rfl
@[simp] theorem rotateLeft_halted (t : Target) (s : State) : (rotateLeft t s).halted = s.halted := by cases t <;> rfl
@[simp] theorem rotateLeft_cycles (t : Target) (s : State) : (rotateLeft t s).cycles = s.cycles := by cases t <;> rfl
@[simp] theorem rotateLeft_params (t : Target) (s : State) : (rotateLeft t s).params = s.params := by cases t <;> rfl

@[simp] theorem rotateRight_x (t : Target) (s : State) : (rotateRight t s).x = s.x := by cases t <;> rfl
@[simp] theorem rotateRight_y (t : Target) (s : State) : (rotateRight t s).y = s.y := by cases t <;> rfl
@[simp] theorem rotateRight_sp (t : Target) (s : State) : (rotateRight t s).sp = s.sp := by cases t <;> rfl
@[simp] theorem rotateRight_pc (t : Target) (s : State) : (rotateRight t s).pc = s.pc := by cases t <;> rfl
@[simp] theorem rotateRight_halted (t : Target) (s : State) : (rotateRight t s).halted = s.halted := by cases t <;> rfl
@[simp] theorem rotateRight_cycles (t : Target) (s : State) : (rotateRight t s).cycles = s.cycles := by cases t <;> rfl
@[simp] theorem rotateRight_params (t : Target) (s : State) : (rotateRight t s).params = s.params := by cases t <;> rfl

@[simp] theorem branchIf_a (c : Bool) (offset : Byte) (s : State) : (branchIf c offset s).a = s.a := by cases c <;> rfl
@[simp] theorem branchIf_x (c : Bool) (offset : Byte) (s : State) : (branchIf c offset s).x = s.x := by cases c <;> rfl
@[simp] theorem branchIf_y (c : Bool) (offset : Byte) (s : State) : (branchIf c offset s).y = s.y := by cases c <;> rfl
@[simp] theorem branchIf_sp (c : Bool) (offset : Byte) (s : State) : (branchIf c offset s).sp = s.sp := by cases c <;> rfl
@[simp] theorem branchIf_p (c : Bool) (offset : Byte) (s : State) : (branchIf c offset s).p = s.p := by cases c <;> rfl
@[simp] theorem branchIf_mem (c : Bool) (offset : Byte) (s : State) : (branchIf c offset s).mem = s.mem := by cases c <;> rfl
@[simp] theorem branchIf_halted (c : Bool) (offset : Byte) (s : State) : (branchIf c offset s).halted = s.halted := by cases c <;> rfl
@[simp] theorem branchIf_cycles (c : Bool) (offset : Byte) (s : State) : (branchIf c offset s).cycles = s.cycles := by cases c <;> rfl
@[simp] theorem branchIf_params (c : Bool) (offset : Byte) (s : State) : (branchIf c offset s).params = s.params := by cases c <;> rfl

end Sys2Proof.Machine
end

