-- ==== Sys2Proof/Laws/Effects.lean ====
section
/-! SUPPORT. What an instruction can do, said once: every instruction answers the next state of one of 44 effects, so a
proof about all 256 instructions goes through the effects. -/

namespace Sys2Proof.Machine

/-- The effects that the 256 instructions have between them. -/
inductive Effect where
  | loadA (o : Operand)
  | loadX (o : Operand)
  | loadY (o : Operand)
  | storeA (m : MemOperand)
  | storeX (m : MemOperand)
  | storeY (m : MemOperand)
  | adc (o : Operand)
  | sbc (o : Operand)
  | and (o : Operand)
  | ora (o : Operand)
  | eor (o : Operand)
  | cmp (o : Operand)
  | cpx (o : Operand)
  | cpy (o : Operand)
  | bit (m : MemOperand)
  | asl (t : Target)
  | lsr (t : Target)
  | rol (t : Target)
  | ror (t : Target)
  | inc (m : MemOperand)
  | dec (m : MemOperand)
  | inx
  | iny
  | dex
  | dey
  | branch (f : Flag) (wanted : Bool) (offset : Byte)
  | jump (target : Word)
  | jumpIndirect (ptr : Word)
  | jsr (target : Word)
  | rts
  | rti
  | pha
  | php
  | pla
  | plp
  | tax
  | txa
  | tay
  | tya
  | tsx
  | txs
  | setFlag (f : Flag) (b : Bool)
  | nop
  | brk

/-- The next state of an effect. -/
def runEffect (e : Effect) (s : State) : State :=
  match e with
  | .loadA o => loadA o s
  | .loadX o => loadX o s
  | .loadY o => loadY o s
  | .storeA m => storeByte m s.a s
  | .storeX m => storeByte m s.x s
  | .storeY m => storeByte m s.y s
  | .adc o => addWithCarry o s
  | .sbc o => subtractWithCarry o s
  | .and o => andWithA o s
  | .ora o => orWithA o s
  | .eor o => xorWithA o s
  | .cmp o => compareA o s
  | .cpx o => compareX o s
  | .cpy o => compareY o s
  | .bit m => testBits m s
  | .asl t => shiftLeft t s
  | .lsr t => shiftRight t s
  | .rol t => rotateLeft t s
  | .ror t => rotateRight t s
  | .inc m => incrementCell m s
  | .dec m => decrementCell m s
  | .inx => countX (s.x + 1#8) s
  | .iny => countY (s.y + 1#8) s
  | .dex => countX (s.x - 1#8) s
  | .dey => countY (s.y - 1#8) s
  | .branch f wanted offset => branchIf (bif wanted then s.flag f else !s.flag f) offset s
  | .jump target => s.setPc target
  | .jumpIndirect ptr => s.setPc (s.indirectTarget ptr)
  | .jsr target => (pushWord (s.pc - 1#16) s).setPc target
  | .rts => (pullWord s).2.setPc ((pullWord s).1 + 1#16)
  | .rti => let pulled := pullWord ((pull8 s).2.loadStatus (pull8 s).1)
    pulled.2.setPc pulled.1
  | .pha => push8 s.a s
  | .php => push8 (s.p ||| phpPushOr s.params) s
  | .pla => ((pull8 s).2.setA (pull8 s).1).setZN (pull8 s).1
  | .plp => (pull8 s).2.loadStatus (pull8 s).1
  | .tax => (s.setX s.a).setZN s.a
  | .txa => (s.setA s.x).setZN s.x
  | .tay => (s.setY s.a).setZN s.a
  | .tya => (s.setA s.y).setZN s.y
  | .tsx => (s.setX s.sp).setZN s.sp
  | .txs => s.setSp s.x
  | .setFlag f b => s.setFlag f b
  | .nop => s
  | .brk => s.halt

/-- The effect of each instruction. -/
def effectOf : Instr → Effect
  | .ldaImm v => .loadA (.immediate v)
  | .ldaZp zp => .loadA (.memory (.zeroPage zp))
  | .ldaZpx zp => .loadA (.memory (.zeroPageX zp))
  | .ldaAbs addr => .loadA (.memory (.absolute addr))
  | .ldaAbx base => .loadA (.memory (.absoluteX base))
  | .ldaAby base => .loadA (.memory (.absoluteY base))
  | .ldaIzx ptr => .loadA (.memory (.indirectX ptr))
  | .ldaIzy ptr => .loadA (.memory (.indirectY ptr))
  | .ldxImm v => .loadX (.immediate v)
  | .ldxZp zp => .loadX (.memory (.zeroPage zp))
  | .ldxZpy zp => .loadX (.memory (.zeroPageY zp))
  | .ldxAbs addr => .loadX (.memory (.absolute addr))
  | .ldxAby base => .loadX (.memory (.absoluteY base))
  | .ldyImm v => .loadY (.immediate v)
  | .ldyZp zp => .loadY (.memory (.zeroPage zp))
  | .ldyZpx zp => .loadY (.memory (.zeroPageX zp))
  | .ldyAbs addr => .loadY (.memory (.absolute addr))
  | .ldyAbx base => .loadY (.memory (.absoluteX base))
  | .staZp zp => .storeA (.zeroPage zp)
  | .staZpx zp => .storeA (.zeroPageX zp)
  | .staAbs addr => .storeA (.absolute addr)
  | .staAbx base => .storeA (.absoluteX base)
  | .staAby base => .storeA (.absoluteY base)
  | .staIzx ptr => .storeA (.indirectX ptr)
  | .staIzy ptr => .storeA (.indirectY ptr)
  | .stxZp zp => .storeX (.zeroPage zp)
  | .stxZpy zp => .storeX (.zeroPageY zp)
  | .stxAbs addr => .storeX (.absolute addr)
  | .styZp zp => .storeY (.zeroPage zp)
  | .styZpx zp => .storeY (.zeroPageX zp)
  | .styAbs addr => .storeY (.absolute addr)
  | .adcImm v => .adc (.immediate v)
  | .adcZp zp => .adc (.memory (.zeroPage zp))
  | .adcZpx zp => .adc (.memory (.zeroPageX zp))
  | .adcAbs addr => .adc (.memory (.absolute addr))
  | .adcAbx base => .adc (.memory (.absoluteX base))
  | .adcAby base => .adc (.memory (.absoluteY base))
  | .adcIzx ptr => .adc (.memory (.indirectX ptr))
  | .adcIzy ptr => .adc (.memory (.indirectY ptr))
  | .sbcImm v => .sbc (.immediate v)
  | .sbcZp zp => .sbc (.memory (.zeroPage zp))
  | .sbcZpx zp => .sbc (.memory (.zeroPageX zp))
  | .sbcAbs addr => .sbc (.memory (.absolute addr))
  | .sbcAbx base => .sbc (.memory (.absoluteX base))
  | .sbcAby base => .sbc (.memory (.absoluteY base))
  | .sbcIzx ptr => .sbc (.memory (.indirectX ptr))
  | .sbcIzy ptr => .sbc (.memory (.indirectY ptr))
  | .andImm v => .and (.immediate v)
  | .andZp zp => .and (.memory (.zeroPage zp))
  | .andZpx zp => .and (.memory (.zeroPageX zp))
  | .andAbs addr => .and (.memory (.absolute addr))
  | .andAbx base => .and (.memory (.absoluteX base))
  | .andAby base => .and (.memory (.absoluteY base))
  | .andIzx ptr => .and (.memory (.indirectX ptr))
  | .andIzy ptr => .and (.memory (.indirectY ptr))
  | .oraImm v => .ora (.immediate v)
  | .oraZp zp => .ora (.memory (.zeroPage zp))
  | .oraZpx zp => .ora (.memory (.zeroPageX zp))
  | .oraAbs addr => .ora (.memory (.absolute addr))
  | .oraAbx base => .ora (.memory (.absoluteX base))
  | .oraAby base => .ora (.memory (.absoluteY base))
  | .oraIzx ptr => .ora (.memory (.indirectX ptr))
  | .oraIzy ptr => .ora (.memory (.indirectY ptr))
  | .eorImm v => .eor (.immediate v)
  | .eorZp zp => .eor (.memory (.zeroPage zp))
  | .eorZpx zp => .eor (.memory (.zeroPageX zp))
  | .eorAbs addr => .eor (.memory (.absolute addr))
  | .eorAbx base => .eor (.memory (.absoluteX base))
  | .eorAby base => .eor (.memory (.absoluteY base))
  | .eorIzx ptr => .eor (.memory (.indirectX ptr))
  | .eorIzy ptr => .eor (.memory (.indirectY ptr))
  | .aslAcc => .asl .accumulator
  | .aslZp zp => .asl (.memory (.zeroPage zp))
  | .aslZpx zp => .asl (.memory (.zeroPageX zp))
  | .aslAbs addr => .asl (.memory (.absolute addr))
  | .aslAbx base => .asl (.memory (.absoluteX base))
  | .lsrAcc => .lsr .accumulator
  | .lsrZp zp => .lsr (.memory (.zeroPage zp))
  | .lsrZpx zp => .lsr (.memory (.zeroPageX zp))
  | .lsrAbs addr => .lsr (.memory (.absolute addr))
  | .lsrAbx base => .lsr (.memory (.absoluteX base))
  | .rolAcc => .rol .accumulator
  | .rolZp zp => .rol (.memory (.zeroPage zp))
  | .rolZpx zp => .rol (.memory (.zeroPageX zp))
  | .rolAbs addr => .rol (.memory (.absolute addr))
  | .rolAbx base => .rol (.memory (.absoluteX base))
  | .rorAcc => .ror .accumulator
  | .rorZp zp => .ror (.memory (.zeroPage zp))
  | .rorZpx zp => .ror (.memory (.zeroPageX zp))
  | .rorAbs addr => .ror (.memory (.absolute addr))
  | .rorAbx base => .ror (.memory (.absoluteX base))
  | .incZp zp => .inc (.zeroPage zp)
  | .incZpx zp => .inc (.zeroPageX zp)
  | .incAbs addr => .inc (.absolute addr)
  | .incAbx base => .inc (.absoluteX base)
  | .decZp zp => .dec (.zeroPage zp)
  | .decZpx zp => .dec (.zeroPageX zp)
  | .decAbs addr => .dec (.absolute addr)
  | .decAbx base => .dec (.absoluteX base)
  | .inx => .inx
  | .iny => .iny
  | .dex => .dex
  | .dey => .dey
  | .cmpImm v => .cmp (.immediate v)
  | .cmpZp zp => .cmp (.memory (.zeroPage zp))
  | .cmpZpx zp => .cmp (.memory (.zeroPageX zp))
  | .cmpAbs addr => .cmp (.memory (.absolute addr))
  | .cmpAbx base => .cmp (.memory (.absoluteX base))
  | .cmpAby base => .cmp (.memory (.absoluteY base))
  | .cmpIzx ptr => .cmp (.memory (.indirectX ptr))
  | .cmpIzy ptr => .cmp (.memory (.indirectY ptr))
  | .cpxImm v => .cpx (.immediate v)
  | .cpxZp zp => .cpx (.memory (.zeroPage zp))
  | .cpxAbs addr => .cpx (.memory (.absolute addr))
  | .cpyImm v => .cpy (.immediate v)
  | .cpyZp zp => .cpy (.memory (.zeroPage zp))
  | .cpyAbs addr => .cpy (.memory (.absolute addr))
  | .bitZp zp => .bit (.zeroPage zp)
  | .bitAbs addr => .bit (.absolute addr)
  | .bpl offset => .branch .negative false offset
  | .bmi offset => .branch .negative true offset
  | .bvc offset => .branch .overflow false offset
  | .bvs offset => .branch .overflow true offset
  | .bcc offset => .branch .carry false offset
  | .bcs offset => .branch .carry true offset
  | .bne offset => .branch .zero false offset
  | .beq offset => .branch .zero true offset
  | .jmpAbs target => .jump target
  | .jmpInd ptr => .jumpIndirect ptr
  | .jsr target => .jsr target
  | .rts => .rts
  | .rti => .rti
  | .pha => .pha
  | .php => .php
  | .pla => .pla
  | .plp => .plp
  | .tax => .tax
  | .txa => .txa
  | .tay => .tay
  | .tya => .tya
  | .tsx => .tsx
  | .txs => .txs
  | .clc => .setFlag .carry false
  | .sec => .setFlag .carry true
  | .cli => .setFlag .interruptDisable false
  | .sei => .setFlag .interruptDisable true
  | .clv => .setFlag .overflow false
  | .cld => .setFlag .decimal false
  | .sed => .setFlag .decimal true
  | .nop => .nop
  | .brk => .brk
  | .undef02 | .undef03 | .undef04 | .undef07 | .undef0B | .undef0C | .undef0F | .undef12 | .undef13 | .undef14
  | .undef17 | .undef1A | .undef1B | .undef1C | .undef1F | .undef22 | .undef23 | .undef27 | .undef2B | .undef2F
  | .undef32 | .undef33 | .undef34 | .undef37 | .undef3A | .undef3B | .undef3C | .undef3F | .undef42 | .undef43
  | .undef44 | .undef47 | .undef4B | .undef4F | .undef52 | .undef53 | .undef54 | .undef57 | .undef5A | .undef5B
  | .undef5C | .undef5F | .undef62 | .undef63 | .undef64 | .undef67 | .undef6B | .undef6F | .undef72 | .undef73
  | .undef74 | .undef77 | .undef7A | .undef7B | .undef7C | .undef7F | .undef80 | .undef82 | .undef83 | .undef87
  | .undef89 | .undef8B | .undef8F | .undef92 | .undef93 | .undef97 | .undef9B | .undef9C | .undef9E | .undef9F
  | .undefA3 | .undefA7 | .undefAB | .undefAF | .undefB2 | .undefB3 | .undefB7 | .undefBB | .undefBF | .undefC2
  | .undefC3 | .undefC7 | .undefCB | .undefCF | .undefD2 | .undefD3 | .undefD4 | .undefD7 | .undefDA | .undefDB
  | .undefDC | .undefDF | .undefE2 | .undefE3 | .undefE7 | .undefEB | .undefEF | .undefF2 | .undefF3 | .undefF4
  | .undefF7 | .undefFA | .undefFB | .undefFC | .undefFF => .nop

/-- Every instruction, in every state, answers the next state of its effect. -/
theorem exec_eq_effect (i : Instr) (s : State) : exec i s = .next (runEffect (effectOf i) s) := by
  cases i <;> rfl

/-- The next state, when one is given. -/
theorem next_eq_effect {i : Instr} {s t : State} (h : exec i s = .next t) : t = runEffect (effectOf i) s := by
  rw [exec_eq_effect] at h
  exact (Host.Outcome.next.inj h).symm

end Sys2Proof.Machine
end

