-- ==== Sys2Proof/Laws/PerInstr.lean ====
section
/-! SUPPORT. Facts stated of every instruction as syntax, one lemma for each constructor. -/

namespace Sys2Proof.Laws

/-- An instruction's encoding is its opcode byte and as many operand bytes as its mode has (30_encoding.md R80, R81). -/
def Encoding.Statement (i : Instr) : Prop :=
  (encode i).length = 1 + i.mode.operandSize

theorem Encoding.ldaImm (v : Byte) : Encoding.Statement (.ldaImm v) := rfl
theorem Encoding.ldaZp (zp : Byte) : Encoding.Statement (.ldaZp zp) := rfl
theorem Encoding.ldaZpx (zp : Byte) : Encoding.Statement (.ldaZpx zp) := rfl
theorem Encoding.ldaAbs (addr : Word) : Encoding.Statement (.ldaAbs addr) := rfl
theorem Encoding.ldaAbx (base : Word) : Encoding.Statement (.ldaAbx base) := rfl
theorem Encoding.ldaAby (base : Word) : Encoding.Statement (.ldaAby base) := rfl
theorem Encoding.ldaIzx (ptr : Byte) : Encoding.Statement (.ldaIzx ptr) := rfl
theorem Encoding.ldaIzy (ptr : Byte) : Encoding.Statement (.ldaIzy ptr) := rfl
theorem Encoding.ldxImm (v : Byte) : Encoding.Statement (.ldxImm v) := rfl
theorem Encoding.ldxZp (zp : Byte) : Encoding.Statement (.ldxZp zp) := rfl
theorem Encoding.ldxZpy (zp : Byte) : Encoding.Statement (.ldxZpy zp) := rfl
theorem Encoding.ldxAbs (addr : Word) : Encoding.Statement (.ldxAbs addr) := rfl
theorem Encoding.ldxAby (base : Word) : Encoding.Statement (.ldxAby base) := rfl
theorem Encoding.ldyImm (v : Byte) : Encoding.Statement (.ldyImm v) := rfl
theorem Encoding.ldyZp (zp : Byte) : Encoding.Statement (.ldyZp zp) := rfl
theorem Encoding.ldyZpx (zp : Byte) : Encoding.Statement (.ldyZpx zp) := rfl
theorem Encoding.ldyAbs (addr : Word) : Encoding.Statement (.ldyAbs addr) := rfl
theorem Encoding.ldyAbx (base : Word) : Encoding.Statement (.ldyAbx base) := rfl
theorem Encoding.staZp (zp : Byte) : Encoding.Statement (.staZp zp) := rfl
theorem Encoding.staZpx (zp : Byte) : Encoding.Statement (.staZpx zp) := rfl
theorem Encoding.staAbs (addr : Word) : Encoding.Statement (.staAbs addr) := rfl
theorem Encoding.staAbx (base : Word) : Encoding.Statement (.staAbx base) := rfl
theorem Encoding.staAby (base : Word) : Encoding.Statement (.staAby base) := rfl
theorem Encoding.staIzx (ptr : Byte) : Encoding.Statement (.staIzx ptr) := rfl
theorem Encoding.staIzy (ptr : Byte) : Encoding.Statement (.staIzy ptr) := rfl
theorem Encoding.stxZp (zp : Byte) : Encoding.Statement (.stxZp zp) := rfl
theorem Encoding.stxZpy (zp : Byte) : Encoding.Statement (.stxZpy zp) := rfl
theorem Encoding.stxAbs (addr : Word) : Encoding.Statement (.stxAbs addr) := rfl
theorem Encoding.styZp (zp : Byte) : Encoding.Statement (.styZp zp) := rfl
theorem Encoding.styZpx (zp : Byte) : Encoding.Statement (.styZpx zp) := rfl
theorem Encoding.styAbs (addr : Word) : Encoding.Statement (.styAbs addr) := rfl
theorem Encoding.adcImm (v : Byte) : Encoding.Statement (.adcImm v) := rfl
theorem Encoding.adcZp (zp : Byte) : Encoding.Statement (.adcZp zp) := rfl
theorem Encoding.adcZpx (zp : Byte) : Encoding.Statement (.adcZpx zp) := rfl
theorem Encoding.adcAbs (addr : Word) : Encoding.Statement (.adcAbs addr) := rfl
theorem Encoding.adcAbx (base : Word) : Encoding.Statement (.adcAbx base) := rfl
theorem Encoding.adcAby (base : Word) : Encoding.Statement (.adcAby base) := rfl
theorem Encoding.adcIzx (ptr : Byte) : Encoding.Statement (.adcIzx ptr) := rfl
theorem Encoding.adcIzy (ptr : Byte) : Encoding.Statement (.adcIzy ptr) := rfl
theorem Encoding.sbcImm (v : Byte) : Encoding.Statement (.sbcImm v) := rfl
theorem Encoding.sbcZp (zp : Byte) : Encoding.Statement (.sbcZp zp) := rfl
theorem Encoding.sbcZpx (zp : Byte) : Encoding.Statement (.sbcZpx zp) := rfl
theorem Encoding.sbcAbs (addr : Word) : Encoding.Statement (.sbcAbs addr) := rfl
theorem Encoding.sbcAbx (base : Word) : Encoding.Statement (.sbcAbx base) := rfl
theorem Encoding.sbcAby (base : Word) : Encoding.Statement (.sbcAby base) := rfl
theorem Encoding.sbcIzx (ptr : Byte) : Encoding.Statement (.sbcIzx ptr) := rfl
theorem Encoding.sbcIzy (ptr : Byte) : Encoding.Statement (.sbcIzy ptr) := rfl
theorem Encoding.andImm (v : Byte) : Encoding.Statement (.andImm v) := rfl
theorem Encoding.andZp (zp : Byte) : Encoding.Statement (.andZp zp) := rfl
theorem Encoding.andZpx (zp : Byte) : Encoding.Statement (.andZpx zp) := rfl
theorem Encoding.andAbs (addr : Word) : Encoding.Statement (.andAbs addr) := rfl
theorem Encoding.andAbx (base : Word) : Encoding.Statement (.andAbx base) := rfl
theorem Encoding.andAby (base : Word) : Encoding.Statement (.andAby base) := rfl
theorem Encoding.andIzx (ptr : Byte) : Encoding.Statement (.andIzx ptr) := rfl
theorem Encoding.andIzy (ptr : Byte) : Encoding.Statement (.andIzy ptr) := rfl
theorem Encoding.oraImm (v : Byte) : Encoding.Statement (.oraImm v) := rfl
theorem Encoding.oraZp (zp : Byte) : Encoding.Statement (.oraZp zp) := rfl
theorem Encoding.oraZpx (zp : Byte) : Encoding.Statement (.oraZpx zp) := rfl
theorem Encoding.oraAbs (addr : Word) : Encoding.Statement (.oraAbs addr) := rfl
theorem Encoding.oraAbx (base : Word) : Encoding.Statement (.oraAbx base) := rfl
theorem Encoding.oraAby (base : Word) : Encoding.Statement (.oraAby base) := rfl
theorem Encoding.oraIzx (ptr : Byte) : Encoding.Statement (.oraIzx ptr) := rfl
theorem Encoding.oraIzy (ptr : Byte) : Encoding.Statement (.oraIzy ptr) := rfl
theorem Encoding.eorImm (v : Byte) : Encoding.Statement (.eorImm v) := rfl
theorem Encoding.eorZp (zp : Byte) : Encoding.Statement (.eorZp zp) := rfl
theorem Encoding.eorZpx (zp : Byte) : Encoding.Statement (.eorZpx zp) := rfl
theorem Encoding.eorAbs (addr : Word) : Encoding.Statement (.eorAbs addr) := rfl
theorem Encoding.eorAbx (base : Word) : Encoding.Statement (.eorAbx base) := rfl
theorem Encoding.eorAby (base : Word) : Encoding.Statement (.eorAby base) := rfl
theorem Encoding.eorIzx (ptr : Byte) : Encoding.Statement (.eorIzx ptr) := rfl
theorem Encoding.eorIzy (ptr : Byte) : Encoding.Statement (.eorIzy ptr) := rfl
theorem Encoding.aslAcc : Encoding.Statement .aslAcc := rfl
theorem Encoding.aslZp (zp : Byte) : Encoding.Statement (.aslZp zp) := rfl
theorem Encoding.aslZpx (zp : Byte) : Encoding.Statement (.aslZpx zp) := rfl
theorem Encoding.aslAbs (addr : Word) : Encoding.Statement (.aslAbs addr) := rfl
theorem Encoding.aslAbx (base : Word) : Encoding.Statement (.aslAbx base) := rfl
theorem Encoding.lsrAcc : Encoding.Statement .lsrAcc := rfl
theorem Encoding.lsrZp (zp : Byte) : Encoding.Statement (.lsrZp zp) := rfl
theorem Encoding.lsrZpx (zp : Byte) : Encoding.Statement (.lsrZpx zp) := rfl
theorem Encoding.lsrAbs (addr : Word) : Encoding.Statement (.lsrAbs addr) := rfl
theorem Encoding.lsrAbx (base : Word) : Encoding.Statement (.lsrAbx base) := rfl
theorem Encoding.rolAcc : Encoding.Statement .rolAcc := rfl
theorem Encoding.rolZp (zp : Byte) : Encoding.Statement (.rolZp zp) := rfl
theorem Encoding.rolZpx (zp : Byte) : Encoding.Statement (.rolZpx zp) := rfl
theorem Encoding.rolAbs (addr : Word) : Encoding.Statement (.rolAbs addr) := rfl
theorem Encoding.rolAbx (base : Word) : Encoding.Statement (.rolAbx base) := rfl
theorem Encoding.rorAcc : Encoding.Statement .rorAcc := rfl
theorem Encoding.rorZp (zp : Byte) : Encoding.Statement (.rorZp zp) := rfl
theorem Encoding.rorZpx (zp : Byte) : Encoding.Statement (.rorZpx zp) := rfl
theorem Encoding.rorAbs (addr : Word) : Encoding.Statement (.rorAbs addr) := rfl
theorem Encoding.rorAbx (base : Word) : Encoding.Statement (.rorAbx base) := rfl
theorem Encoding.incZp (zp : Byte) : Encoding.Statement (.incZp zp) := rfl
theorem Encoding.incZpx (zp : Byte) : Encoding.Statement (.incZpx zp) := rfl
theorem Encoding.incAbs (addr : Word) : Encoding.Statement (.incAbs addr) := rfl
theorem Encoding.incAbx (base : Word) : Encoding.Statement (.incAbx base) := rfl
theorem Encoding.decZp (zp : Byte) : Encoding.Statement (.decZp zp) := rfl
theorem Encoding.decZpx (zp : Byte) : Encoding.Statement (.decZpx zp) := rfl
theorem Encoding.decAbs (addr : Word) : Encoding.Statement (.decAbs addr) := rfl
theorem Encoding.decAbx (base : Word) : Encoding.Statement (.decAbx base) := rfl
theorem Encoding.inx : Encoding.Statement .inx := rfl
theorem Encoding.iny : Encoding.Statement .iny := rfl
theorem Encoding.dex : Encoding.Statement .dex := rfl
theorem Encoding.dey : Encoding.Statement .dey := rfl
theorem Encoding.cmpImm (v : Byte) : Encoding.Statement (.cmpImm v) := rfl
theorem Encoding.cmpZp (zp : Byte) : Encoding.Statement (.cmpZp zp) := rfl
theorem Encoding.cmpZpx (zp : Byte) : Encoding.Statement (.cmpZpx zp) := rfl
theorem Encoding.cmpAbs (addr : Word) : Encoding.Statement (.cmpAbs addr) := rfl
theorem Encoding.cmpAbx (base : Word) : Encoding.Statement (.cmpAbx base) := rfl
theorem Encoding.cmpAby (base : Word) : Encoding.Statement (.cmpAby base) := rfl
theorem Encoding.cmpIzx (ptr : Byte) : Encoding.Statement (.cmpIzx ptr) := rfl
theorem Encoding.cmpIzy (ptr : Byte) : Encoding.Statement (.cmpIzy ptr) := rfl
theorem Encoding.cpxImm (v : Byte) : Encoding.Statement (.cpxImm v) := rfl
theorem Encoding.cpxZp (zp : Byte) : Encoding.Statement (.cpxZp zp) := rfl
theorem Encoding.cpxAbs (addr : Word) : Encoding.Statement (.cpxAbs addr) := rfl
theorem Encoding.cpyImm (v : Byte) : Encoding.Statement (.cpyImm v) := rfl
theorem Encoding.cpyZp (zp : Byte) : Encoding.Statement (.cpyZp zp) := rfl
theorem Encoding.cpyAbs (addr : Word) : Encoding.Statement (.cpyAbs addr) := rfl
theorem Encoding.bitZp (zp : Byte) : Encoding.Statement (.bitZp zp) := rfl
theorem Encoding.bitAbs (addr : Word) : Encoding.Statement (.bitAbs addr) := rfl
theorem Encoding.bpl (offset : Byte) : Encoding.Statement (.bpl offset) := rfl
theorem Encoding.bmi (offset : Byte) : Encoding.Statement (.bmi offset) := rfl
theorem Encoding.bvc (offset : Byte) : Encoding.Statement (.bvc offset) := rfl
theorem Encoding.bvs (offset : Byte) : Encoding.Statement (.bvs offset) := rfl
theorem Encoding.bcc (offset : Byte) : Encoding.Statement (.bcc offset) := rfl
theorem Encoding.bcs (offset : Byte) : Encoding.Statement (.bcs offset) := rfl
theorem Encoding.bne (offset : Byte) : Encoding.Statement (.bne offset) := rfl
theorem Encoding.beq (offset : Byte) : Encoding.Statement (.beq offset) := rfl
theorem Encoding.jmpAbs (target : Word) : Encoding.Statement (.jmpAbs target) := rfl
theorem Encoding.jmpInd (ptr : Word) : Encoding.Statement (.jmpInd ptr) := rfl
theorem Encoding.jsr (target : Word) : Encoding.Statement (.jsr target) := rfl
theorem Encoding.rts : Encoding.Statement .rts := rfl
theorem Encoding.rti : Encoding.Statement .rti := rfl
theorem Encoding.pha : Encoding.Statement .pha := rfl
theorem Encoding.php : Encoding.Statement .php := rfl
theorem Encoding.pla : Encoding.Statement .pla := rfl
theorem Encoding.plp : Encoding.Statement .plp := rfl
theorem Encoding.tax : Encoding.Statement .tax := rfl
theorem Encoding.txa : Encoding.Statement .txa := rfl
theorem Encoding.tay : Encoding.Statement .tay := rfl
theorem Encoding.tya : Encoding.Statement .tya := rfl
theorem Encoding.tsx : Encoding.Statement .tsx := rfl
theorem Encoding.txs : Encoding.Statement .txs := rfl
theorem Encoding.clc : Encoding.Statement .clc := rfl
theorem Encoding.sec : Encoding.Statement .sec := rfl
theorem Encoding.cli : Encoding.Statement .cli := rfl
theorem Encoding.sei : Encoding.Statement .sei := rfl
theorem Encoding.clv : Encoding.Statement .clv := rfl
theorem Encoding.cld : Encoding.Statement .cld := rfl
theorem Encoding.sed : Encoding.Statement .sed := rfl
theorem Encoding.nop : Encoding.Statement .nop := rfl
theorem Encoding.brk : Encoding.Statement .brk := rfl
theorem Encoding.undef02 : Encoding.Statement .undef02 := rfl
theorem Encoding.undef03 : Encoding.Statement .undef03 := rfl
theorem Encoding.undef04 : Encoding.Statement .undef04 := rfl
theorem Encoding.undef07 : Encoding.Statement .undef07 := rfl
theorem Encoding.undef0B : Encoding.Statement .undef0B := rfl
theorem Encoding.undef0C : Encoding.Statement .undef0C := rfl
theorem Encoding.undef0F : Encoding.Statement .undef0F := rfl
theorem Encoding.undef12 : Encoding.Statement .undef12 := rfl
theorem Encoding.undef13 : Encoding.Statement .undef13 := rfl
theorem Encoding.undef14 : Encoding.Statement .undef14 := rfl
theorem Encoding.undef17 : Encoding.Statement .undef17 := rfl
theorem Encoding.undef1A : Encoding.Statement .undef1A := rfl
theorem Encoding.undef1B : Encoding.Statement .undef1B := rfl
theorem Encoding.undef1C : Encoding.Statement .undef1C := rfl
theorem Encoding.undef1F : Encoding.Statement .undef1F := rfl
theorem Encoding.undef22 : Encoding.Statement .undef22 := rfl
theorem Encoding.undef23 : Encoding.Statement .undef23 := rfl
theorem Encoding.undef27 : Encoding.Statement .undef27 := rfl
theorem Encoding.undef2B : Encoding.Statement .undef2B := rfl
theorem Encoding.undef2F : Encoding.Statement .undef2F := rfl
theorem Encoding.undef32 : Encoding.Statement .undef32 := rfl
theorem Encoding.undef33 : Encoding.Statement .undef33 := rfl
theorem Encoding.undef34 : Encoding.Statement .undef34 := rfl
theorem Encoding.undef37 : Encoding.Statement .undef37 := rfl
theorem Encoding.undef3A : Encoding.Statement .undef3A := rfl
theorem Encoding.undef3B : Encoding.Statement .undef3B := rfl
theorem Encoding.undef3C : Encoding.Statement .undef3C := rfl
theorem Encoding.undef3F : Encoding.Statement .undef3F := rfl
theorem Encoding.undef42 : Encoding.Statement .undef42 := rfl
theorem Encoding.undef43 : Encoding.Statement .undef43 := rfl
theorem Encoding.undef44 : Encoding.Statement .undef44 := rfl
theorem Encoding.undef47 : Encoding.Statement .undef47 := rfl
theorem Encoding.undef4B : Encoding.Statement .undef4B := rfl
theorem Encoding.undef4F : Encoding.Statement .undef4F := rfl
theorem Encoding.undef52 : Encoding.Statement .undef52 := rfl
theorem Encoding.undef53 : Encoding.Statement .undef53 := rfl
theorem Encoding.undef54 : Encoding.Statement .undef54 := rfl
theorem Encoding.undef57 : Encoding.Statement .undef57 := rfl
theorem Encoding.undef5A : Encoding.Statement .undef5A := rfl
theorem Encoding.undef5B : Encoding.Statement .undef5B := rfl
theorem Encoding.undef5C : Encoding.Statement .undef5C := rfl
theorem Encoding.undef5F : Encoding.Statement .undef5F := rfl
theorem Encoding.undef62 : Encoding.Statement .undef62 := rfl
theorem Encoding.undef63 : Encoding.Statement .undef63 := rfl
theorem Encoding.undef64 : Encoding.Statement .undef64 := rfl
theorem Encoding.undef67 : Encoding.Statement .undef67 := rfl
theorem Encoding.undef6B : Encoding.Statement .undef6B := rfl
theorem Encoding.undef6F : Encoding.Statement .undef6F := rfl
theorem Encoding.undef72 : Encoding.Statement .undef72 := rfl
theorem Encoding.undef73 : Encoding.Statement .undef73 := rfl
theorem Encoding.undef74 : Encoding.Statement .undef74 := rfl
theorem Encoding.undef77 : Encoding.Statement .undef77 := rfl
theorem Encoding.undef7A : Encoding.Statement .undef7A := rfl
theorem Encoding.undef7B : Encoding.Statement .undef7B := rfl
theorem Encoding.undef7C : Encoding.Statement .undef7C := rfl
theorem Encoding.undef7F : Encoding.Statement .undef7F := rfl
theorem Encoding.undef80 : Encoding.Statement .undef80 := rfl
theorem Encoding.undef82 : Encoding.Statement .undef82 := rfl
theorem Encoding.undef83 : Encoding.Statement .undef83 := rfl
theorem Encoding.undef87 : Encoding.Statement .undef87 := rfl
theorem Encoding.undef89 : Encoding.Statement .undef89 := rfl
theorem Encoding.undef8B : Encoding.Statement .undef8B := rfl
theorem Encoding.undef8F : Encoding.Statement .undef8F := rfl
theorem Encoding.undef92 : Encoding.Statement .undef92 := rfl
theorem Encoding.undef93 : Encoding.Statement .undef93 := rfl
theorem Encoding.undef97 : Encoding.Statement .undef97 := rfl
theorem Encoding.undef9B : Encoding.Statement .undef9B := rfl
theorem Encoding.undef9C : Encoding.Statement .undef9C := rfl
theorem Encoding.undef9E : Encoding.Statement .undef9E := rfl
theorem Encoding.undef9F : Encoding.Statement .undef9F := rfl
theorem Encoding.undefA3 : Encoding.Statement .undefA3 := rfl
theorem Encoding.undefA7 : Encoding.Statement .undefA7 := rfl
theorem Encoding.undefAB : Encoding.Statement .undefAB := rfl
theorem Encoding.undefAF : Encoding.Statement .undefAF := rfl
theorem Encoding.undefB2 : Encoding.Statement .undefB2 := rfl
theorem Encoding.undefB3 : Encoding.Statement .undefB3 := rfl
theorem Encoding.undefB7 : Encoding.Statement .undefB7 := rfl
theorem Encoding.undefBB : Encoding.Statement .undefBB := rfl
theorem Encoding.undefBF : Encoding.Statement .undefBF := rfl
theorem Encoding.undefC2 : Encoding.Statement .undefC2 := rfl
theorem Encoding.undefC3 : Encoding.Statement .undefC3 := rfl
theorem Encoding.undefC7 : Encoding.Statement .undefC7 := rfl
theorem Encoding.undefCB : Encoding.Statement .undefCB := rfl
theorem Encoding.undefCF : Encoding.Statement .undefCF := rfl
theorem Encoding.undefD2 : Encoding.Statement .undefD2 := rfl
theorem Encoding.undefD3 : Encoding.Statement .undefD3 := rfl
theorem Encoding.undefD4 : Encoding.Statement .undefD4 := rfl
theorem Encoding.undefD7 : Encoding.Statement .undefD7 := rfl
theorem Encoding.undefDA : Encoding.Statement .undefDA := rfl
theorem Encoding.undefDB : Encoding.Statement .undefDB := rfl
theorem Encoding.undefDC : Encoding.Statement .undefDC := rfl
theorem Encoding.undefDF : Encoding.Statement .undefDF := rfl
theorem Encoding.undefE2 : Encoding.Statement .undefE2 := rfl
theorem Encoding.undefE3 : Encoding.Statement .undefE3 := rfl
theorem Encoding.undefE7 : Encoding.Statement .undefE7 := rfl
theorem Encoding.undefEB : Encoding.Statement .undefEB := rfl
theorem Encoding.undefEF : Encoding.Statement .undefEF := rfl
theorem Encoding.undefF2 : Encoding.Statement .undefF2 := rfl
theorem Encoding.undefF3 : Encoding.Statement .undefF3 := rfl
theorem Encoding.undefF4 : Encoding.Statement .undefF4 := rfl
theorem Encoding.undefF7 : Encoding.Statement .undefF7 := rfl
theorem Encoding.undefFA : Encoding.Statement .undefFA := rfl
theorem Encoding.undefFB : Encoding.Statement .undefFB := rfl
theorem Encoding.undefFC : Encoding.Statement .undefFC := rfl
theorem Encoding.undefFF : Encoding.Statement .undefFF := rfl

end Sys2Proof.Laws
end

