-- ==== Sys2Proof/Laws/Stack.lean ====
section
/-! SUPPORT. What the stack operations do to memory, said once. -/

namespace Sys2Proof.Machine

/-- Every stack cell lies in page one (10_state.md R35). -/
theorem stackAddress_toNat (sp : Byte) : (stackAddress sp).toNat = 0x0100 + sp.toNat := by
  simp [stackAddress, wordOf_toNat]

theorem stackAddress_injective {a b : Byte} (h : stackAddress a = stackAddress b) : a = b := by
  have key := congrArg BitVec.toNat h
  rw [stackAddress_toNat, stackAddress_toNat] at key
  exact BitVec.eq_of_toNat_eq (by omega)

/-- A push leaves the cell above its own alone. -/
theorem stackAddress_pred_ne (sp : Byte) : stackAddress (sp - 1#8) ≠ stackAddress sp := by
  intro h
  have key := congrArg BitVec.toNat (stackAddress_injective h)
  have hlt := sp.isLt
  rw [BitVec.toNat_sub] at key
  simp only [BitVec.toNat_ofNat] at key
  omega

/-- Memory after a push: the pushed byte in the cell SP named, every other cell as before (10_state.md R33). -/
theorem memRead_push8 (v : Byte) (s : State) (addr : Word) :
    (push8 v s).memRead addr = if stackAddress s.sp = addr then v else s.memRead addr :=
  State.memRead_memWrite s (stackAddress s.sp) addr v

/-- Memory after a word is pushed: its high byte in the cell SP named, its low byte in the next cell
(48_jump_call_return.md R217). -/
theorem memRead_pushWord (w : Word) (s : State) (addr : Word) :
    (pushWord w s).memRead addr =
      if stackAddress (s.sp - 1#8) = addr then lowByte w
      else if stackAddress s.sp = addr then highByte w else s.memRead addr := by
  rw [pushWord, memRead_push8, memRead_push8, push8_sp]

/-- A pull reads the cell above SP and leaves memory alone (10_state.md R34). -/
theorem memRead_pull8 (s : State) (addr : Word) : (pull8 s).2.memRead addr = s.memRead addr := rfl

/-- A pushed word is pulled again (48_jump_call_return.md R220). -/
theorem pullWord_pushWord (w : Word) (s : State) : (pullWord (pushWord w s)).1 = w := by
  rw [pullWord_word, pushWord_sp, BitVec.sub_add_cancel, BitVec.sub_add_cancel, memRead_pushWord, memRead_pushWord,
    if_neg (stackAddress_pred_ne s.sp), if_pos rfl, if_pos rfl, wordOf_highByte_lowByte]

end Sys2Proof.Machine
end

