-- ==== Sys2Proof/Tests/Slice0.lean ====
section
/-! SUPPORT. The model's own tests. The expected values are the spec's: the opcode bytes of 30_encoding.md R90 to R92,
the vectors of 95_test_vectors.md, named by their number there, and the worked examples of its part 1. After them a
witness for the hypotheses of each obligation. -/

namespace Sys2Proof.Tests

open Sys2Proof Sys2Proof.Machine Sys2Proof.Claims

/-- The vectors' base state: the reset state with PC at `pc` and an instruction's bytes there. -/
def baseAt (pc : Word) (bytes : List Byte) : State :=
  (State.create 0xFF#8 pc standardParams).loadBytes pc.toNat bytes

/-- The base state at 0x0600. -/
def base (bytes : List Byte) : State := baseAt 0x0600#16 bytes

/-- A state with some memory cells set. -/
def cells (s : State) : List (Word × Byte) → State
  | [] => s
  | (addr, v) :: rest => cells (s.memWrite addr v) rest

/-- The result is a next state that passes the test. -/
def gives (r : Result) (test : State → Bool) : Bool :=
  match r with
  | .next t => test t
  | .fault _ => false
  | .refused _ => false

/-! WellFormed: an instruction whose opcode byte is in `OPSET` passes, one whose byte is left out does not, and the
decoder then names it (30_encoding.md R87, R92; vector T49.38). -/

/-- `OPSET` without 0xA9. -/
def withoutA9 : Params := ⟨[0xA9#8], false, false⟩

theorem test_wellFormed_accepts : (Instr.ldaImm 0x05#8).wellFormed standardParams = true := by decide
theorem test_wellFormed_refuses_omitted : (Instr.ldaImm 0x05#8).wellFormed withoutA9 = false := by decide
theorem test_wellFormed_keeps_others : (Instr.ldaZp 0x05#8).wellFormed withoutA9 = true := by decide
theorem test_decode_names_omitted :
    decode withoutA9 [0xA9#8, 0x05#8] = .error (.notInOpset 0xA9#8) := by decide
theorem test_decode_truncated : decode standardParams [0xAD#8, 0x34#8] = .error .truncated := by decide

/-! Decoding: the opcode byte of every constructor, with the operand bytes 0x34 and 0x12. -/

/-- The rows decode to their instructions, and nothing is left over. -/
def decodesAll (rows : List (List Byte × Instr)) : Bool :=
  rows.all fun row => decode standardParams row.1 == .ok (row.2, [])

theorem test_decode_loads_stores : decodesAll
    (List.flatten [
     [([0xA9#8, 0x34#8], .ldaImm 0x34#8),
      ([0xA5#8, 0x34#8], .ldaZp 0x34#8),
      ([0xB5#8, 0x34#8], .ldaZpx 0x34#8),
      ([0xAD#8, 0x34#8, 0x12#8], .ldaAbs 0x1234#16),
      ([0xBD#8, 0x34#8, 0x12#8], .ldaAbx 0x1234#16),
      ([0xB9#8, 0x34#8, 0x12#8], .ldaAby 0x1234#16),
      ([0xA1#8, 0x34#8], .ldaIzx 0x34#8),
      ([0xB1#8, 0x34#8], .ldaIzy 0x34#8)],
     [([0xA2#8, 0x34#8], .ldxImm 0x34#8),
      ([0xA6#8, 0x34#8], .ldxZp 0x34#8),
      ([0xB6#8, 0x34#8], .ldxZpy 0x34#8),
      ([0xAE#8, 0x34#8, 0x12#8], .ldxAbs 0x1234#16),
      ([0xBE#8, 0x34#8, 0x12#8], .ldxAby 0x1234#16),
      ([0xA0#8, 0x34#8], .ldyImm 0x34#8),
      ([0xA4#8, 0x34#8], .ldyZp 0x34#8),
      ([0xB4#8, 0x34#8], .ldyZpx 0x34#8)],
     [([0xAC#8, 0x34#8, 0x12#8], .ldyAbs 0x1234#16),
      ([0xBC#8, 0x34#8, 0x12#8], .ldyAbx 0x1234#16),
      ([0x85#8, 0x34#8], .staZp 0x34#8),
      ([0x95#8, 0x34#8], .staZpx 0x34#8),
      ([0x8D#8, 0x34#8, 0x12#8], .staAbs 0x1234#16),
      ([0x9D#8, 0x34#8, 0x12#8], .staAbx 0x1234#16),
      ([0x99#8, 0x34#8, 0x12#8], .staAby 0x1234#16),
      ([0x81#8, 0x34#8], .staIzx 0x34#8)],
     [([0x91#8, 0x34#8], .staIzy 0x34#8),
      ([0x86#8, 0x34#8], .stxZp 0x34#8),
      ([0x96#8, 0x34#8], .stxZpy 0x34#8),
      ([0x8E#8, 0x34#8, 0x12#8], .stxAbs 0x1234#16),
      ([0x84#8, 0x34#8], .styZp 0x34#8),
      ([0x94#8, 0x34#8], .styZpx 0x34#8),
      ([0x8C#8, 0x34#8, 0x12#8], .styAbs 0x1234#16)]]) = true := by decide

theorem test_decode_arithmetic_bitwise : decodesAll
    (List.flatten [
     [([0x69#8, 0x34#8], .adcImm 0x34#8),
      ([0x65#8, 0x34#8], .adcZp 0x34#8),
      ([0x75#8, 0x34#8], .adcZpx 0x34#8),
      ([0x6D#8, 0x34#8, 0x12#8], .adcAbs 0x1234#16),
      ([0x7D#8, 0x34#8, 0x12#8], .adcAbx 0x1234#16),
      ([0x79#8, 0x34#8, 0x12#8], .adcAby 0x1234#16),
      ([0x61#8, 0x34#8], .adcIzx 0x34#8),
      ([0x71#8, 0x34#8], .adcIzy 0x34#8)],
     [([0xE9#8, 0x34#8], .sbcImm 0x34#8),
      ([0xE5#8, 0x34#8], .sbcZp 0x34#8),
      ([0xF5#8, 0x34#8], .sbcZpx 0x34#8),
      ([0xED#8, 0x34#8, 0x12#8], .sbcAbs 0x1234#16),
      ([0xFD#8, 0x34#8, 0x12#8], .sbcAbx 0x1234#16),
      ([0xF9#8, 0x34#8, 0x12#8], .sbcAby 0x1234#16),
      ([0xE1#8, 0x34#8], .sbcIzx 0x34#8),
      ([0xF1#8, 0x34#8], .sbcIzy 0x34#8)],
     [([0x29#8, 0x34#8], .andImm 0x34#8),
      ([0x25#8, 0x34#8], .andZp 0x34#8),
      ([0x35#8, 0x34#8], .andZpx 0x34#8),
      ([0x2D#8, 0x34#8, 0x12#8], .andAbs 0x1234#16),
      ([0x3D#8, 0x34#8, 0x12#8], .andAbx 0x1234#16),
      ([0x39#8, 0x34#8, 0x12#8], .andAby 0x1234#16),
      ([0x21#8, 0x34#8], .andIzx 0x34#8),
      ([0x31#8, 0x34#8], .andIzy 0x34#8)],
     [([0x09#8, 0x34#8], .oraImm 0x34#8),
      ([0x05#8, 0x34#8], .oraZp 0x34#8),
      ([0x15#8, 0x34#8], .oraZpx 0x34#8),
      ([0x0D#8, 0x34#8, 0x12#8], .oraAbs 0x1234#16),
      ([0x1D#8, 0x34#8, 0x12#8], .oraAbx 0x1234#16),
      ([0x19#8, 0x34#8, 0x12#8], .oraAby 0x1234#16),
      ([0x01#8, 0x34#8], .oraIzx 0x34#8),
      ([0x11#8, 0x34#8], .oraIzy 0x34#8)],
     [([0x49#8, 0x34#8], .eorImm 0x34#8),
      ([0x45#8, 0x34#8], .eorZp 0x34#8),
      ([0x55#8, 0x34#8], .eorZpx 0x34#8),
      ([0x4D#8, 0x34#8, 0x12#8], .eorAbs 0x1234#16),
      ([0x5D#8, 0x34#8, 0x12#8], .eorAbx 0x1234#16),
      ([0x59#8, 0x34#8, 0x12#8], .eorAby 0x1234#16),
      ([0x41#8, 0x34#8], .eorIzx 0x34#8),
      ([0x51#8, 0x34#8], .eorIzy 0x34#8)]]) = true := by decide

theorem test_decode_shifts_counts : decodesAll
    (List.flatten [
     [([0x0A#8], .aslAcc),
      ([0x06#8, 0x34#8], .aslZp 0x34#8),
      ([0x16#8, 0x34#8], .aslZpx 0x34#8),
      ([0x0E#8, 0x34#8, 0x12#8], .aslAbs 0x1234#16),
      ([0x1E#8, 0x34#8, 0x12#8], .aslAbx 0x1234#16),
      ([0x4A#8], .lsrAcc),
      ([0x46#8, 0x34#8], .lsrZp 0x34#8),
      ([0x56#8, 0x34#8], .lsrZpx 0x34#8)],
     [([0x4E#8, 0x34#8, 0x12#8], .lsrAbs 0x1234#16),
      ([0x5E#8, 0x34#8, 0x12#8], .lsrAbx 0x1234#16),
      ([0x2A#8], .rolAcc),
      ([0x26#8, 0x34#8], .rolZp 0x34#8),
      ([0x36#8, 0x34#8], .rolZpx 0x34#8),
      ([0x2E#8, 0x34#8, 0x12#8], .rolAbs 0x1234#16),
      ([0x3E#8, 0x34#8, 0x12#8], .rolAbx 0x1234#16),
      ([0x6A#8], .rorAcc)],
     [([0x66#8, 0x34#8], .rorZp 0x34#8),
      ([0x76#8, 0x34#8], .rorZpx 0x34#8),
      ([0x6E#8, 0x34#8, 0x12#8], .rorAbs 0x1234#16),
      ([0x7E#8, 0x34#8, 0x12#8], .rorAbx 0x1234#16),
      ([0xE6#8, 0x34#8], .incZp 0x34#8),
      ([0xF6#8, 0x34#8], .incZpx 0x34#8),
      ([0xEE#8, 0x34#8, 0x12#8], .incAbs 0x1234#16),
      ([0xFE#8, 0x34#8, 0x12#8], .incAbx 0x1234#16)],
     [([0xC6#8, 0x34#8], .decZp 0x34#8),
      ([0xD6#8, 0x34#8], .decZpx 0x34#8),
      ([0xCE#8, 0x34#8, 0x12#8], .decAbs 0x1234#16),
      ([0xDE#8, 0x34#8, 0x12#8], .decAbx 0x1234#16),
      ([0xE8#8], .inx),
      ([0xC8#8], .iny),
      ([0xCA#8], .dex),
      ([0x88#8], .dey)]]) = true := by decide

theorem test_decode_compares_bit : decodesAll
    (List.flatten [
     [([0xC9#8, 0x34#8], .cmpImm 0x34#8),
      ([0xC5#8, 0x34#8], .cmpZp 0x34#8),
      ([0xD5#8, 0x34#8], .cmpZpx 0x34#8),
      ([0xCD#8, 0x34#8, 0x12#8], .cmpAbs 0x1234#16),
      ([0xDD#8, 0x34#8, 0x12#8], .cmpAbx 0x1234#16),
      ([0xD9#8, 0x34#8, 0x12#8], .cmpAby 0x1234#16),
      ([0xC1#8, 0x34#8], .cmpIzx 0x34#8),
      ([0xD1#8, 0x34#8], .cmpIzy 0x34#8)],
     [([0xE0#8, 0x34#8], .cpxImm 0x34#8),
      ([0xE4#8, 0x34#8], .cpxZp 0x34#8),
      ([0xEC#8, 0x34#8, 0x12#8], .cpxAbs 0x1234#16),
      ([0xC0#8, 0x34#8], .cpyImm 0x34#8),
      ([0xC4#8, 0x34#8], .cpyZp 0x34#8),
      ([0xCC#8, 0x34#8, 0x12#8], .cpyAbs 0x1234#16),
      ([0x24#8, 0x34#8], .bitZp 0x34#8),
      ([0x2C#8, 0x34#8, 0x12#8], .bitAbs 0x1234#16)]]) = true := by decide

theorem test_decode_branches_jumps : decodesAll
    (List.flatten [
     [([0x10#8, 0x34#8], .bpl 0x34#8),
      ([0x30#8, 0x34#8], .bmi 0x34#8),
      ([0x50#8, 0x34#8], .bvc 0x34#8),
      ([0x70#8, 0x34#8], .bvs 0x34#8),
      ([0x90#8, 0x34#8], .bcc 0x34#8),
      ([0xB0#8, 0x34#8], .bcs 0x34#8),
      ([0xD0#8, 0x34#8], .bne 0x34#8),
      ([0xF0#8, 0x34#8], .beq 0x34#8)],
     [([0x4C#8, 0x34#8, 0x12#8], .jmpAbs 0x1234#16),
      ([0x6C#8, 0x34#8, 0x12#8], .jmpInd 0x1234#16),
      ([0x20#8, 0x34#8, 0x12#8], .jsr 0x1234#16),
      ([0x60#8], .rts),
      ([0x40#8], .rti)]]) = true := by decide

theorem test_decode_stack_transfer_flag_system : decodesAll
    (List.flatten [
     [([0x48#8], .pha),
      ([0x08#8], .php),
      ([0x68#8], .pla),
      ([0x28#8], .plp),
      ([0xAA#8], .tax),
      ([0x8A#8], .txa),
      ([0xA8#8], .tay),
      ([0x98#8], .tya)],
     [([0xBA#8], .tsx),
      ([0x9A#8], .txs),
      ([0x18#8], .clc),
      ([0x38#8], .sec),
      ([0x58#8], .cli),
      ([0x78#8], .sei),
      ([0xB8#8], .clv),
      ([0xD8#8], .cld)],
     [([0xF8#8], .sed),
      ([0xEA#8], .nop),
      ([0x00#8], .brk)]]) = true := by decide

theorem test_decode_undefined_0 : decodesAll
    (List.flatten [
     [([0x02#8], .undef02),
      ([0x03#8], .undef03),
      ([0x04#8], .undef04),
      ([0x07#8], .undef07),
      ([0x0B#8], .undef0B),
      ([0x0C#8], .undef0C),
      ([0x0F#8], .undef0F),
      ([0x12#8], .undef12)],
     [([0x13#8], .undef13),
      ([0x14#8], .undef14),
      ([0x17#8], .undef17),
      ([0x1A#8], .undef1A),
      ([0x1B#8], .undef1B),
      ([0x1C#8], .undef1C),
      ([0x1F#8], .undef1F),
      ([0x22#8], .undef22)],
     [([0x23#8], .undef23),
      ([0x27#8], .undef27),
      ([0x2B#8], .undef2B),
      ([0x2F#8], .undef2F),
      ([0x32#8], .undef32),
      ([0x33#8], .undef33),
      ([0x34#8], .undef34),
      ([0x37#8], .undef37)],
     [([0x3A#8], .undef3A),
      ([0x3B#8], .undef3B),
      ([0x3C#8], .undef3C),
      ([0x3F#8], .undef3F),
      ([0x42#8], .undef42),
      ([0x43#8], .undef43),
      ([0x44#8], .undef44),
      ([0x47#8], .undef47)],
     [([0x4B#8], .undef4B),
      ([0x4F#8], .undef4F),
      ([0x52#8], .undef52),
      ([0x53#8], .undef53),
      ([0x54#8], .undef54),
      ([0x57#8], .undef57),
      ([0x5A#8], .undef5A),
      ([0x5B#8], .undef5B)],
     [([0x5C#8], .undef5C),
      ([0x5F#8], .undef5F),
      ([0x62#8], .undef62),
      ([0x63#8], .undef63),
      ([0x64#8], .undef64),
      ([0x67#8], .undef67),
      ([0x6B#8], .undef6B),
      ([0x6F#8], .undef6F)],
     [([0x72#8], .undef72),
      ([0x73#8], .undef73),
      ([0x74#8], .undef74),
      ([0x77#8], .undef77),
      ([0x7A#8], .undef7A)]]) = true := by decide

theorem test_decode_undefined_1 : decodesAll
    (List.flatten [
     [([0x7B#8], .undef7B),
      ([0x7C#8], .undef7C),
      ([0x7F#8], .undef7F),
      ([0x80#8], .undef80),
      ([0x82#8], .undef82),
      ([0x83#8], .undef83),
      ([0x87#8], .undef87),
      ([0x89#8], .undef89)],
     [([0x8B#8], .undef8B),
      ([0x8F#8], .undef8F),
      ([0x92#8], .undef92),
      ([0x93#8], .undef93),
      ([0x97#8], .undef97),
      ([0x9B#8], .undef9B),
      ([0x9C#8], .undef9C),
      ([0x9E#8], .undef9E)],
     [([0x9F#8], .undef9F),
      ([0xA3#8], .undefA3),
      ([0xA7#8], .undefA7),
      ([0xAB#8], .undefAB),
      ([0xAF#8], .undefAF),
      ([0xB2#8], .undefB2),
      ([0xB3#8], .undefB3),
      ([0xB7#8], .undefB7)],
     [([0xBB#8], .undefBB),
      ([0xBF#8], .undefBF),
      ([0xC2#8], .undefC2),
      ([0xC3#8], .undefC3),
      ([0xC7#8], .undefC7),
      ([0xCB#8], .undefCB),
      ([0xCF#8], .undefCF),
      ([0xD2#8], .undefD2)],
     [([0xD3#8], .undefD3),
      ([0xD4#8], .undefD4),
      ([0xD7#8], .undefD7),
      ([0xDA#8], .undefDA),
      ([0xDB#8], .undefDB),
      ([0xDC#8], .undefDC),
      ([0xDF#8], .undefDF),
      ([0xE2#8], .undefE2)],
     [([0xE3#8], .undefE3),
      ([0xE7#8], .undefE7),
      ([0xEB#8], .undefEB),
      ([0xEF#8], .undefEF),
      ([0xF2#8], .undefF2),
      ([0xF3#8], .undefF3),
      ([0xF4#8], .undefF4),
      ([0xF7#8], .undefF7)],
     [([0xFA#8], .undefFA),
      ([0xFB#8], .undefFB),
      ([0xFC#8], .undefFC),
      ([0xFF#8], .undefFF)]]) = true := by decide

/-! One word of each family bit by bit, from the table of 30_encoding.md R90. -/

theorem test_decode_bits :
    decodesAll
      [([0b10110001#8, 0b10000110#8], .ldaIzy 0x86#8), ([0b10010110#8, 0b00010000#8], .stxZpy 0x10#8),
       ([0b01101101#8, 0b00110100#8, 0b00010010#8], .adcAbs 0x1234#16),
       ([0b01011001#8, 0x00#8, 0x20#8], .eorAby 0x2000#16),
       ([0b01101010#8], .rorAcc), ([0b11011110#8, 0x00#8, 0x20#8], .decAbx 0x2000#16),
       ([0b11010001#8, 0x10#8], .cmpIzy 0x10#8), ([0b11010000#8, 0b10000000#8], .bne 0x80#8),
       ([0b01101100#8, 0xFF#8, 0x02#8], .jmpInd 0x02FF#16), ([0b10011010#8], .txs),
       ([0b00000000#8], .brk), ([0b00000010#8], .undef02)] = true := by decide

/-! The host's numbering of the table, and the fetch. -/

theorem test_tableWord_lowByteFirst : decodeTableWord 24 0x1234AD = some (.ldaAbs 0x1234#16) := by decide
theorem test_tableWord_short : decodeTableWord 8 0xFFFF69 = some (.adcImm 0x00#8) := by decide
theorem test_withFetchWord_runs :
    gives (step (State.reset.withFetchWord 16 0x42A9)) (fun t => t.a == 0x42#8 && t.pc == 0x0002#16) = true := by decide
theorem test_withFetchWord_wraps :
    gives (step (({ State.reset with pc := 0xFFFF#16, halted := true } : State).withFetchWord 24 0x12344C))
      (fun t => t.pc == 0x1234#16 && !t.halted) = true := by decide

/-! One Step each: the vectors of 95_test_vectors.md. -/

theorem test_T41_5_ldaZpx :
    gives (step ({ cells (base [0xB5#8, 0xF0#8]) [(0x0010#16, 0x44#8), (0x0110#16, 0x99#8)]
        with x := 0x20#8 } : State))
      (fun t => t.a == 0x44#8 && t.p == 0x20#8 && t.pc == 0x0602#16) = true := by decide
theorem test_T41_11_ldaIzx :
    gives (step ({ cells (base [0xA1#8, 0xFE#8]) [(0x0000#16, 0x12#8), (0x00FF#16, 0x34#8), (0x0100#16, 0x77#8), (0x1234#16, 0xCD#8)]
        with x := 0x01#8 } : State))
      (fun t => t.a == 0xCD#8 && t.p == 0xA0#8 && t.pc == 0x0602#16) = true := by decide
theorem test_T41_14_ldaIzy :
    gives (step ({ cells (base [0xB1#8, 0x10#8]) [(0x0008#16, 0x21#8), (0x0010#16, 0xF8#8), (0x0011#16, 0xFF#8)]
        with y := 0x10#8 } : State))
      (fun t => t.a == 0x21#8 && t.p == 0x20#8 && t.pc == 0x0602#16) = true := by decide
theorem test_T41_17_ldxZpy :
    gives (step ({ cells (base [0xB6#8, 0xFF#8]) [(0x0000#16, 0x0C#8), (0x0100#16, 0x0D#8)]
        with y := 0x01#8 } : State))
      (fun t => t.x == 0x0C#8 && t.p == 0x20#8 && t.pc == 0x0602#16) = true := by decide
theorem test_T41_18_ldxAby :
    gives (step ({ cells (base [0xBE#8, 0x00#8, 0x30#8]) [(0x3005#16, 0x80#8)] with y := 0x05#8 } : State))
      (fun t => t.x == 0x80#8 && t.p == 0xA0#8 && t.pc == 0x0603#16) = true := by decide
theorem test_T41_20_ldyZpx :
    gives (step ({ cells (base [0xB4#8, 0x80#8]) [(0x0000#16, 0x12#8)] with x := 0x80#8 } : State))
      (fun t => t.y == 0x12#8 && t.p == 0x20#8 && t.pc == 0x0602#16) = true := by decide
theorem test_T41_22_staZp :
    gives (step ({ base [0x85#8, 0x10#8] with a := 0x42#8, p := 0xA2#8 } : State))
      (fun t => t.p == 0xA2#8 && t.pc == 0x0602#16 && t.memRead 0x0010#16 == 0x42#8) = true := by decide
theorem test_T41_24_staAbx :
    gives (step ({ base [0x9D#8, 0xFF#8, 0xFF#8] with a := 0x77#8, x := 0x01#8 } : State))
      (fun t => t.p == 0x20#8 && t.pc == 0x0603#16 && t.memRead 0x0000#16 == 0x77#8) = true := by decide
theorem test_T41_28_staZpx :
    gives (step ({ base [0x95#8, 0xFF#8] with a := 0x01#8, x := 0x01#8 } : State))
      (fun t => t.p == 0x20#8 && t.pc == 0x0602#16 && t.memRead 0x0000#16 == 0x01#8) = true := by decide
theorem test_T41_30_stxZpy :
    gives (step ({ base [0x96#8, 0x10#8] with x := 0xFD#8, y := 0xF0#8 } : State))
      (fun t => t.p == 0x20#8 && t.pc == 0x0602#16 && t.memRead 0x0000#16 == 0xFD#8) = true := by decide
theorem test_T41_33_styZpx :
    gives (step ({ base [0x94#8, 0x10#8] with x := 0x01#8, y := 0xFB#8 } : State))
      (fun t => t.p == 0x20#8 && t.pc == 0x0602#16 && t.memRead 0x0011#16 == 0xFB#8) = true := by decide
theorem test_T42_3_adcImm :
    gives (step ({ base [0x69#8, 0x50#8] with a := 0x50#8 } : State))
      (fun t => t.a == 0xA0#8 && t.p == 0xE0#8 && t.pc == 0x0602#16) = true := by decide
theorem test_T42_4_adcImm :
    gives (step ({ base [0x69#8, 0x90#8] with a := 0xD0#8 } : State))
      (fun t => t.a == 0x60#8 && t.p == 0x61#8 && t.pc == 0x0602#16) = true := by decide
theorem test_T42_22_sbcImm :
    gives (step ({ base [0xE9#8, 0x01#8] with a := 0x05#8 } : State))
      (fun t => t.a == 0x03#8 && t.p == 0x21#8 && t.pc == 0x0602#16) = true := by decide
theorem test_T42_31_sbcImm :
    gives (step ({ base [0xE9#8, 0x80#8] with p := 0x21#8 } : State))
      (fun t => t.a == 0x80#8 && t.p == 0xE0#8 && t.pc == 0x0602#16) = true := by decide
theorem test_T43_2_andImm :
    gives (step ({ base [0x29#8, 0x80#8] with a := 0xFF#8, p := 0x61#8 } : State))
      (fun t => t.a == 0x80#8 && t.p == 0xE1#8 && t.pc == 0x0602#16) = true := by decide
theorem test_T43_4_andIzx :
    gives (step ({ cells (base [0x21#8, 0x00#8]) [(0x0011#16, 0x20#8), (0x2000#16, 0x55#8)]
        with a := 0xFF#8, x := 0x10#8 } : State))
      (fun t => t.a == 0x55#8 && t.p == 0x20#8 && t.pc == 0x0602#16) = true := by decide
theorem test_T43_7_oraAbx :
    gives (step ({ cells (base [0x1D#8, 0x00#8, 0x20#8]) [(0x2001#16, 0xF0#8)]
        with a := 0x0F#8, x := 0x01#8 } : State))
      (fun t => t.a == 0xFF#8 && t.p == 0xA0#8 && t.pc == 0x0603#16) = true := by decide
theorem test_T43_9_eorImm :
    gives (step ({ base [0x49#8, 0xFF#8] with a := 0x0F#8 } : State))
      (fun t => t.a == 0xF0#8 && t.p == 0xA0#8 && t.pc == 0x0602#16) = true := by decide
theorem test_T44_2_aslAcc :
    gives (step ({ base [0x0A#8] with a := 0x40#8, p := 0x21#8 } : State))
      (fun t => t.a == 0x80#8 && t.p == 0xA0#8 && t.pc == 0x0601#16) = true := by decide
theorem test_T44_4_aslZp :
    gives (step ({ cells (base [0x06#8, 0x10#8]) [(0x0010#16, 0x81#8)] with a := 0x99#8 } : State))
      (fun t => t.p == 0x21#8 && t.pc == 0x0602#16 && t.memRead 0x0010#16 == 0x02#8) = true := by decide
theorem test_T44_7_lsrAcc :
    gives (step ({ base [0x4A#8] with a := 0x80#8, p := 0xA1#8 } : State))
      (fun t => t.a == 0x40#8 && t.p == 0x20#8 && t.pc == 0x0601#16) = true := by decide
theorem test_T44_9_lsrZpx :
    gives (step ({ cells (base [0x56#8, 0x10#8]) [(0x0000#16, 0x02#8)] with x := 0xF0#8 } : State))
      (fun t => t.p == 0x20#8 && t.pc == 0x0602#16 && t.memRead 0x0000#16 == 0x01#8) = true := by decide
theorem test_T44_13_rolAcc :
    gives (step ({ base [0x2A#8] with a := 0x40#8 } : State))
      (fun t => t.a == 0x80#8 && t.p == 0xA0#8 && t.pc == 0x0601#16) = true := by decide
theorem test_T44_15_rolAbx :
    gives (step ({ cells (base [0x3E#8, 0x00#8, 0x20#8]) [(0x2002#16, 0xC0#8)] with x := 0x02#8 } : State))
      (fun t => t.p == 0xA1#8 && t.pc == 0x0603#16 && t.memRead 0x2002#16 == 0x80#8) = true := by decide
theorem test_T44_18_rorAcc :
    gives (step ({ base [0x6A#8] with a := 0x01#8, p := 0x21#8 } : State))
      (fun t => t.a == 0x80#8 && t.p == 0xA1#8 && t.pc == 0x0601#16) = true := by decide
theorem test_T44_20_rorZp :
    gives (step ({ cells (base [0x66#8, 0x10#8]) [(0x0010#16, 0x02#8)] with p := 0x21#8 } : State))
      (fun t => t.p == 0xA0#8 && t.pc == 0x0602#16 && t.memRead 0x0010#16 == 0x81#8) = true := by decide
theorem test_T45_1_incZp :
    gives (step ({ cells (base [0xE6#8, 0x10#8]) [(0x0010#16, 0xFF#8)] with p := 0x61#8 } : State))
      (fun t => t.p == 0x63#8 && t.pc == 0x0602#16 && t.memRead 0x0010#16 == 0x00#8) = true := by decide
theorem test_T45_6_decZp :
    gives (step (base [0xC6#8, 0x10#8] : State))
      (fun t => t.p == 0xA0#8 && t.pc == 0x0602#16 && t.memRead 0x0010#16 == 0xFF#8) = true := by decide
theorem test_T45_12_inx :
    gives (step ({ base [0xE8#8] with x := 0x7F#8, p := 0x61#8 } : State))
      (fun t => t.x == 0x80#8 && t.p == 0xE1#8 && t.pc == 0x0601#16) = true := by decide
theorem test_T45_13_iny :
    gives (step ({ base [0xC8#8] with y := 0xFF#8 } : State))
      (fun t => t.y == 0x00#8 && t.p == 0x22#8 && t.pc == 0x0601#16) = true := by decide
theorem test_T45_15_dex :
    gives (step (base [0xCA#8] : State))
      (fun t => t.x == 0xFF#8 && t.p == 0xA0#8 && t.pc == 0x0601#16) = true := by decide
theorem test_T45_18_dey :
    gives (step ({ base [0x88#8] with y := 0x81#8 } : State))
      (fun t => t.y == 0x80#8 && t.p == 0xA0#8 && t.pc == 0x0601#16) = true := by decide
theorem test_T46_3_cmpImm :
    gives (step ({ base [0xC9#8, 0x41#8] with a := 0x40#8, p := 0x21#8 } : State))
      (fun t => t.p == 0xA0#8 && t.pc == 0x0602#16) = true := by decide
theorem test_T46_12_cpxAbs :
    gives (step ({ cells (base [0xEC#8, 0x00#8, 0x20#8]) [(0x2000#16, 0x7F#8)] with x := 0xFF#8 } : State))
      (fun t => t.p == 0xA1#8 && t.pc == 0x0603#16) = true := by decide
theorem test_T46_14_cpyZp :
    gives (step ({ cells (base [0xC4#8, 0x10#8]) [(0x0010#16, 0x80#8)] with y := 0x7F#8 } : State))
      (fun t => t.p == 0xA0#8 && t.pc == 0x0602#16) = true := by decide
theorem test_T46_16_bitZp :
    gives (step ({ cells (base [0x24#8, 0x10#8]) [(0x0010#16, 0xC0#8)] with a := 0x01#8 } : State))
      (fun t => t.p == 0xE2#8 && t.pc == 0x0602#16) = true := by decide
theorem test_T46_18_bitAbs :
    gives (step ({ cells (base [0x2C#8, 0x00#8, 0x20#8]) [(0x2000#16, 0x40#8)]
        with a := 0x40#8, p := 0x21#8 } : State))
      (fun t => t.p == 0x61#8 && t.pc == 0x0603#16) = true := by decide
theorem test_T47_1_bpl :
    gives (step (base [0x10#8, 0x10#8] : State))
      (fun t => t.p == 0x20#8 && t.pc == 0x0612#16) = true := by decide
theorem test_T47_3_bmi :
    gives (step ({ base [0x30#8, 0x10#8] with p := 0xA0#8 } : State))
      (fun t => t.p == 0xA0#8 && t.pc == 0x0612#16) = true := by decide
theorem test_T47_6_bvc :
    gives (step ({ base [0x50#8, 0x10#8] with p := 0x60#8 } : State))
      (fun t => t.p == 0x60#8 && t.pc == 0x0602#16) = true := by decide
theorem test_T47_7_bvs :
    gives (step ({ base [0x70#8, 0x10#8] with p := 0x60#8 } : State))
      (fun t => t.p == 0x60#8 && t.pc == 0x0612#16) = true := by decide
theorem test_T47_9_bcc :
    gives (step (base [0x90#8, 0x10#8] : State))
      (fun t => t.p == 0x20#8 && t.pc == 0x0612#16) = true := by decide
theorem test_T47_11_bcs :
    gives (step ({ base [0xB0#8, 0x10#8] with p := 0x21#8 } : State))
      (fun t => t.p == 0x21#8 && t.pc == 0x0612#16) = true := by decide
theorem test_T47_25_bne :
    gives (step (baseAt 0x060E#16 [0xD0#8, 0x80#8] : State))
      (fun t => t.p == 0x20#8 && t.pc == 0x0590#16) = true := by decide
theorem test_T47_24_bne :
    gives (step (baseAt 0xFFFF#16 [0xD0#8, 0x05#8] : State))
      (fun t => t.p == 0x20#8 && t.pc == 0x0006#16) = true := by decide
theorem test_T47_26_beq :
    gives (step ({ base [0xF0#8, 0x10#8] with p := 0xFD#8 } : State))
      (fun t => t.p == 0xFD#8 && t.pc == 0x0602#16) = true := by decide
theorem test_T48_1_jmpAbs :
    gives (step ({ base [0x4C#8, 0x34#8, 0x12#8] with a := 0x01#8, p := 0xE3#8 } : State))
      (fun t => t.p == 0xE3#8 && t.pc == 0x1234#16) = true := by decide
theorem test_T48_4_jmpInd :
    gives (step (cells (base [0x6C#8, 0xFF#8, 0x02#8]) [(0x0200#16, 0x40#8), (0x0300#16, 0x80#8)] : State))
      (fun t => t.p == 0x20#8 && t.pc == 0x8000#16) = true := by decide
theorem test_T48_5_jmpInd :
    gives (step ({ cells (base [0x6C#8, 0xFF#8, 0x02#8]) [(0x0200#16, 0x40#8), (0x0300#16, 0x80#8)]
        with params := ⟨[], true, false⟩ } : State))
      (fun t => t.p == 0x20#8 && t.pc == 0x4000#16) = true := by decide
theorem test_T48_9_jsr :
    gives (step ({ base [0x20#8, 0x00#8, 0x07#8] with sp := 0x00#8 } : State))
      (fun t => t.sp == 0xFE#8 && t.p == 0x20#8 && t.pc == 0x0700#16 &&
        t.memRead 0x0100#16 == 0x06#8 && t.memRead 0x01FF#16 == 0x02#8) = true := by decide
theorem test_T48_12_rts :
    gives (step ({ cells (base [0x60#8]) [(0x01FE#16, 0xFF#8), (0x01FF#16, 0xFF#8)] with sp := 0xFD#8 } : State))
      (fun t => t.sp == 0xFF#8 && t.p == 0x20#8 && t.pc == 0x0000#16) = true := by decide
theorem test_T48_15_rti :
    gives (step ({ cells (base [0x40#8]) [(0x01FD#16, 0xC3#8), (0x01FE#16, 0x34#8), (0x01FF#16, 0x12#8)]
        with sp := 0xFC#8 } : State))
      (fun t => t.sp == 0xFF#8 && t.p == 0xE3#8 && t.pc == 0x1234#16) = true := by decide
theorem test_T48_17_rti :
    gives (step ({ cells (base [0x40#8]) [(0x0101#16, 0x08#8), (0x01FF#16, 0x81#8)] with sp := 0xFE#8 } : State))
      (fun t => t.sp == 0x01#8 && t.p == 0xA1#8 && t.pc == 0x0800#16) = true := by decide
theorem test_T49_2_pha :
    gives (step ({ base [0x48#8] with a := 0x43#8, sp := 0x00#8 } : State))
      (fun t => t.sp == 0xFF#8 && t.p == 0x20#8 && t.pc == 0x0601#16 &&
        t.memRead 0x0100#16 == 0x43#8) = true := by decide
theorem test_T49_4_php :
    gives (step ({ base [0x08#8] with p := 0xE3#8 } : State))
      (fun t => t.sp == 0xFE#8 && t.p == 0xE3#8 && t.pc == 0x0601#16 &&
        t.memRead 0x01FF#16 == 0xE3#8) = true := by decide
theorem test_T49_6_php :
    gives (step ({ base [0x08#8] with params := ⟨[], false, true⟩ } : State))
      (fun t => t.sp == 0xFE#8 && t.p == 0x20#8 && t.pc == 0x0601#16 &&
        t.memRead 0x01FF#16 == 0x30#8) = true := by decide
theorem test_T49_8_pla :
    gives (step (cells (base [0x68#8]) [(0x0100#16, 0x80#8)] : State))
      (fun t => t.a == 0x80#8 && t.sp == 0x00#8 && t.p == 0xA0#8 && t.pc == 0x0601#16) = true := by decide
theorem test_T49_9_plp :
    gives (step ({ cells (base [0x28#8]) [(0x01FF#16, 0xCF#8)] with sp := 0xFE#8 } : State))
      (fun t => t.sp == 0xFF#8 && t.p == 0xEF#8 && t.pc == 0x0601#16) = true := by decide
theorem test_T49_12_tax :
    gives (step ({ base [0xAA#8] with a := 0x80#8 } : State))
      (fun t => t.x == 0x80#8 && t.p == 0xA0#8 && t.pc == 0x0601#16) = true := by decide
theorem test_T49_14_txa :
    gives (step ({ base [0x8A#8] with a := 0x22#8 } : State))
      (fun t => t.a == 0x00#8 && t.p == 0x22#8 && t.pc == 0x0601#16) = true := by decide
theorem test_T49_16_tay :
    gives (step ({ base [0xA8#8] with a := 0xFF#8 } : State))
      (fun t => t.y == 0xFF#8 && t.p == 0xA0#8 && t.pc == 0x0601#16) = true := by decide
theorem test_T49_17_tya :
    gives (step ({ base [0x98#8] with a := 0x80#8, y := 0x01#8, p := 0xA0#8 } : State))
      (fun t => t.a == 0x01#8 && t.p == 0x20#8 && t.pc == 0x0601#16) = true := by decide
theorem test_T49_18_tsx :
    gives (step (base [0xBA#8] : State))
      (fun t => t.x == 0xFF#8 && t.p == 0xA0#8 && t.pc == 0x0601#16) = true := by decide
theorem test_T49_21_txs :
    gives (step ({ base [0x9A#8] with x := 0x80#8, p := 0x22#8 } : State))
      (fun t => t.sp == 0x80#8 && t.p == 0x22#8 && t.pc == 0x0601#16) = true := by decide
theorem test_T49_22_clc :
    gives (step ({ base [0x18#8] with p := 0xFF#8 } : State))
      (fun t => t.p == 0xFE#8 && t.pc == 0x0601#16) = true := by decide
theorem test_T49_24_sec :
    gives (step (base [0x38#8] : State))
      (fun t => t.p == 0x21#8 && t.pc == 0x0601#16) = true := by decide
theorem test_T49_25_cli :
    gives (step ({ base [0x58#8] with p := 0xFF#8 } : State))
      (fun t => t.p == 0xFB#8 && t.pc == 0x0601#16) = true := by decide
theorem test_T49_26_sei :
    gives (step (base [0x78#8] : State))
      (fun t => t.p == 0x24#8 && t.pc == 0x0601#16) = true := by decide
theorem test_T49_27_clv :
    gives (step ({ base [0xB8#8] with p := 0xFF#8 } : State))
      (fun t => t.p == 0xBF#8 && t.pc == 0x0601#16) = true := by decide
theorem test_T49_28_cld :
    gives (step ({ base [0xD8#8] with p := 0xFF#8 } : State))
      (fun t => t.p == 0xF7#8 && t.pc == 0x0601#16) = true := by decide
theorem test_T49_29_sed :
    gives (step (base [0xF8#8] : State))
      (fun t => t.p == 0x28#8 && t.pc == 0x0601#16) = true := by decide
theorem test_T49_30_nop :
    gives (step ({ base [0xEA#8] with a := 0x01#8, x := 0x02#8, y := 0x03#8, p := 0xE3#8 } : State))
      (fun t => t.p == 0xE3#8 && t.pc == 0x0601#16) = true := by decide
theorem test_T49_31_brk :
    gives (step (base [0x00#8] : State))
      (fun t => t.p == 0x20#8 && t.pc == 0x0601#16 && t.halted && t.cycles == 1) = true := by decide
theorem test_T49_34_undef02 :
    gives (step (base [0x02#8] : State))
      (fun t => t.p == 0x20#8 && t.pc == 0x0601#16 && t.cycles == 1) = true := by decide
theorem test_T49_37_undefFF :
    gives (step ({ base [0xFF#8] with a := 0x09#8, p := 0xE3#8 } : State))
      (fun t => t.p == 0xE3#8 && t.pc == 0x0601#16) = true := by decide
theorem test_T60_7_nop :
    gives (step ({ base [0xEA#8] with halted := true } : State))
      (fun t => t.p == 0x20#8 && t.pc == 0x0600#16 && t.halted && t.cycles == 0) = true := by decide

/-! Host transactions (95_test_vectors.md, T70). -/

theorem test_T70_3_readByte_outside :
    readByte 65536 (base [0xEA#8]) = 0x00#8 ∧ readByte (-1) (base [0xEA#8]) = 0x00#8 := by
  decide
theorem test_T70_4_load_lastByte :
    gives (hostLoad 0xFFFF [0x11#8] State.reset) (fun t => t.memRead 0xFFFF#16 == 0x11#8) = true := by decide
theorem test_T70_5_load_refused : hostLoad 0xFFFF [0x11#8, 0x22#8] State.reset = .refused .loadOutsideMemory := by rfl
/-- 60_exceptions.md R293: what survives the clearing of Halted; 95_test_vectors.md T70.6 for both clears. -/
theorem test_R293_clearHalted_keeps_cycles :
    hostAct .clearHalted { base [0x00#8] with pc := 0x0601#16, halted := true, cycles := 1 } =
      .next { base [0x00#8] with pc := 0x0601#16, cycles := 1 } := rfl
theorem test_T70_6_clearRunState :
    hostAct .clearRunState { base [0x00#8] with pc := 0x0601#16, halted := true, cycles := 1 } =
      .next { base [0x00#8] with pc := 0x0601#16 } := rfl
theorem test_T70_9_run :
    gives (hostActs (bootSequence 0x0600 [0xEA#8] 0x0600 1) State.reset)
      (fun t => !isHalted t && t.cycles == 1 && t.pc == 0x0601#16) = true := by decide

/-! The assembler (95_test_vectors.md, V8 and V9). -/

/-- The assembled bytes of a text. -/
def assembled (text : String) : Option (List Byte) :=
  match assemble text.toList with
  | .ok bytes => some bytes
  | .error _ => none

theorem test_V9_immediate_hex : assembled "LDA #$10" = some [0xA9#8, 0x10#8] := by decide
theorem test_V9_four_digits_absolute : assembled "LDA $0010" = some [0xAD#8, 0x10#8, 0x00#8] := by decide
theorem test_V9_lowercase : assembled "lda #$0f" = some [0xA9#8, 0x0F#8] := by decide
theorem test_V9_jmp_parentheses_dropped : assembled "JMP ($1234)" = some [0x4C#8, 0x34#8, 0x12#8] := by decide
theorem test_V9_label_ignored : assembled "LOOP: DEX" = some [0xCA#8] := by decide
theorem test_V9_branch_offset : assembled "BNE $80" = some [0xD0#8, 0x80#8] := by decide
theorem test_V9_no_such_mode : assembled "STA #$10" = some [] := by decide
theorem test_V8_unknown_mnemonic :
    assembled "LDA #$01\nXYZ\nSTA $10" = some [0xA9#8, 0x01#8, 0x85#8, 0x10#8] := by decide

theorem test_V9_label_operand_emits_nothing : assembled "BNE LOOP" = some [] := by decide

/-! The parser's steps and rows (30_encoding.md R104, R105, R113), by hand. -/

/-- Step 3: the Identifier after a label is the mnemonic, though a Colon follows it. -/
theorem test_R104_identifier_after_label_is_mnemonic : assembled "A: CLC: DEX" = some [0x18#8, 0xCA#8] := by decide
theorem test_R104_label_before_label :
    parse (tokenize "START:\nLOOP: DEX".toList) =
      .ok [⟨"LOOP".toList, .implied, 0, some "START".toList⟩, ⟨"DEX".toList, .implied, 0, none⟩] := by decide
theorem test_R105_comma_after_decimal : assembled "LDA 16, DEX" = some [0xA5#8, 0x10#8, 0xCA#8] := by decide
theorem test_R113_index_after_decimal : assemble "LDA 16,X".toList = .error .suffixAfterDecimal := by decide

/-! Witnesses: for each obligation with hypotheses, a state and operands that meet them all. -/

theorem witness_StepKeepsTheInvariant :
    (base [0x28#8]).Inv ∧ gives (step (base [0x28#8])) (fun t => t.sp == 0x00#8) = true := by
  refine ⟨⟨by decide, by decide⟩, by decide⟩

theorem witness_EveryReachableStateMeetsTheInvariant :
    Reachable { base [0x00#8] with pc := 0x0601#16, halted := true, cycles := 1 } :=
  .stepped (base [0x00#8]) _
    (.acted (.load 0x0600 [0x00#8]) (State.create 0xFF#8 0x0600#16 standardParams) _ (.created _ _ _) rfl) rfl

/-- A halted state, with a next state of a transaction that leaves it halted and of each that clears Halted. -/
theorem witness_StepWhileHaltedChangesNothing :
    ({ base [0xA9#8, 0x05#8] with halted := true } : State).halted = true ∧
    gives (hostAct (.run 5) { base [0xA9#8, 0x05#8] with halted := true }) (fun t => t.halted) = true ∧
    gives (hostAct .clearRunState { base [0xA9#8, 0x05#8] with halted := true }) (fun t => !t.halted) = true ∧
    gives (hostAct .clearHalted { base [0xA9#8, 0x05#8] with halted := true }) (fun t => !t.halted) = true := by
  decide

theorem witness_StepRunsTheDecodedInstruction :
    (baseAt 0xFFFF#16 [0xA9#8, 0x42#8]).halted = false ∧
    decode standardParams (bytesAtPc (baseAt 0xFFFF#16 [0xA9#8, 0x42#8])) = .ok (.ldaImm 0x42#8, [0x00#8]) := by decide

theorem witness_StepRunsTheDecodedInstruction_longest :
    decode standardParams (bytesAtPc (baseAt 0xFFFE#16 [0xAD#8, 0x34#8, 0x12#8])) =
      .ok (.ldaAbs 0x1234#16, []) := by decide

theorem witness_StepRunsTheDecodedInstruction_omitted :
    decode withoutA9 (bytesAtPc { base [0xA9#8, 0x42#8] with params := withoutA9 }) =
      .error (.notInOpset 0xA9#8) := by decide

theorem witness_UndefinedOpcodeIsAOneByteNop :
    (base [0x02#8]).memRead (base [0x02#8]).pc ∈ undefinedBytes ∧
    (base [0xFF#8]).memRead 0x0600#16 ∈ undefinedBytes ∧
    withoutA9.omits ((base [0xA9#8]).memRead 0x0600#16) = true := by decide

theorem witness_EveryRunningStepCountsOne : (base [0x02#8]).halted = false := by decide

theorem witness_OnlyBrkHaltsTheCore :
    gives (step (base [0x00#8])) (fun t => t.halted) = true ∧
    gives (step { base [0x00#8] with params := ⟨[0x00#8], false, false⟩ }) (fun t => !t.halted) = true ∧
    gives (step (base [0xEA#8])) (fun t => !t.halted) = true := by decide

theorem witness_ParametersNeverChange :
    gives (step (base [0xEA#8])) (fun _ => true) = true ∧
    gives (hostAct (.setPc 65535) State.reset) (fun _ => true) = true ∧
    gives (hostAct (.run 3) State.reset) (fun t => t.halted) = true ∧
    gives (hostAct (.load 0 [0x01#8]) State.reset) (fun _ => true) = true ∧
    gives (hostAct .clearRunState State.reset) (fun _ => true) = true ∧
    gives (hostAct .clearHalted State.reset) (fun _ => true) = true ∧
    gives (hostAct .clearCycles State.reset) (fun _ => true) = true := by decide

theorem witness_NothingDependsOnCycles :
    gives (step (base [0x69#8, 0x01#8])) (fun t => t.cycles == 1) = true := by decide

theorem witness_StoredFlagsInfluenceNothing :
    AgreeExceptIDB { base [0x69#8, 0x19#8] with p := 0x3D#8 } { base [0x69#8, 0x19#8] with p := 0x21#8 } ∧
    ({ base [0x69#8, 0x19#8] with p := 0x3D#8 } : State).memRead 0x0600#16 ≠ 0x08#8 ∧
    gives (step { base [0x69#8, 0x19#8] with p := 0x3D#8 }) (fun t => t.a == 0x1A#8) = true :=
  ⟨⟨rfl, by decide⟩, by decide, by decide⟩

/-- The cells a push and a store keep: the statements' clause on the other cells has an address to speak of, at the end
of the stack page and of memory. -/
theorem witness_OtherCellsKept :
    (0x01FF#16 : Word) ≠ stackAddress 0x00#8 ∧ (0x0100#16 : Word) ≠ stackAddress 0xFF#8 ∧
    (0xFFFF#16 : Word) ≠ State.reset.effectiveAddress (.zeroPage 0x10#8) ∧
    (0x0000#16 : Word) ≠ State.reset.effectiveAddress (.absolute 0xFFFF#16) := by decide

theorem witness_WriteChangesExactlyOneCell : (0x0000#16 : Word) ≠ 0xFFFF#16 := by decide

theorem witness_CanonicalMemoriesThatReadAlikeAreEqual :
    Memory.wf ((Memory.write [] 5 0x01#8).write 3 0x02#8) = true ∧
    Memory.wf ((Memory.write [] 3 0x02#8).write 5 0x01#8) = true ∧
    ∀ a, a < 65536 → ((Memory.write [] 5 0x01#8).write 3 0x02#8).read a =
      ((Memory.write [] 3 0x02#8).write 5 0x01#8).read a :=
  ⟨by decide, by decide, fun _ _ => rfl⟩

theorem witness_PushAndPullWorkOnPageOne : (0x0100#16 : Word).toNat ≠ 0x0100 + (0xFF#8 : Byte).toNat := by decide

theorem witness_StackIsLastInFirstOut : (List.replicate 256 (0x00#8 : Byte)).length = 256 :=
  List.length_replicate

theorem witness_NextStepRunsWhatWasStoredAtPc :
    (base []).halted = false ∧
    decode standardParams [0x4C#8, 0x00#8, 0x06#8] = .ok (.jmpAbs 0x0600#16, []) := by decide

theorem witness_StatusByteIsTheSumOfItsFlags :
    State.reset.p[5] = true ∧ ({ State.reset with p := 0xFF#8 } : State).p[5] = true := by decide

theorem witness_SetZnWritesZeroAndNegativeOnly : Flag.carry ≠ .zero ∧ Flag.carry ≠ .negative := by decide

/-- The frames: an instruction outside each class, which gives a next state. -/
theorem witness_RegistersChangeOnlyWhereNamed :
    (writesA (.ldxImm 0x01#8) = false ∧ writesX (.ldaImm 0x01#8) = false ∧ writesY (.ldaImm 0x01#8) = false ∧
      writesSp (.ldaImm 0x01#8) = false) ∧
    writesA (.rorZp 0x10#8) = false ∧ writesA .rorAcc = true ∧
    gives (exec (.ldxImm 0x01#8) State.reset) (fun t => t.x == 0x01#8) = true ∧
    gives (exec (.ldaImm 0x01#8) State.reset) (fun t => t.a == 0x01#8) = true := by decide

theorem witness_FlagsChangeOnlyWhereNamed :
    (∀ f, writesFlag f .nop = false) ∧ isOneOf .plp [.plp, .rti] = true ∧ isOneOf .clc [.plp, .rti] = false ∧
    writesFlag .carry (.incZp 0x10#8) = false ∧ writesFlag .overflow (.cmpImm 0x10#8) = false ∧
    gives (exec .plp State.reset) (fun t => t.p == 0x20#8) = true ∧
    gives (exec .clc State.reset) (fun _ => true) = true :=
  ⟨fun f => by cases f <;> decide, by decide, by decide, by decide, by decide, by decide, by decide⟩

theorem witness_MemoryChangesOnlyWhereStored :
    gives (exec (.jsr 0x0700#16) { State.reset with sp := 0x00#8 }) (fun t => t.sp == 0xFE#8) = true ∧
    0x0101#16 ∉ storedAddresses (.jsr 0x0700#16) { State.reset with sp := 0x00#8 } ∧
    0x0100#16 ∈ storedAddresses (.jsr 0x0700#16) { State.reset with sp := 0x00#8 } ∧
    0x01FF#16 ∈ storedAddresses (.jsr 0x0700#16) { State.reset with sp := 0x00#8 } ∧
    0x0000#16 ∉ storedAddresses (.ldaImm 0x01#8) State.reset := by decide

theorem witness_ControlStateChangesOnlyWhereNamed :
    writesPc .nop = false ∧ Instr.nop ≠ .brk ∧ gives (exec .nop State.reset) (fun _ => true) = true := by decide

/-- Every list of forms has a member, so no statement over one is empty. -/
theorem witness_forms :
    (.ldaIzy 0x10#8, .memory (.indirectY 0x10#8)) ∈ ldaForms 0x10#8 0x1234#16 ∧
    (.ldxImm 0x10#8, .immediate 0x10#8) ∈ ldxForms 0x10#8 0x1234#16 ∧
    (.ldyAbs 0x1234#16, .memory (.absolute 0x1234#16)) ∈ ldyForms 0x10#8 0x1234#16 ∧
    (.staZp 0x10#8, .zeroPage 0x10#8) ∈ staForms 0x10#8 0x1234#16 ∧
    (.stxZpy 0x10#8, .zeroPageY 0x10#8) ∈ stxForms 0x10#8 0x1234#16 ∧
    (.styZpx 0x10#8, .zeroPageX 0x10#8) ∈ styForms 0x10#8 0x1234#16 ∧
    (.adcImm 0x10#8, .immediate 0x10#8) ∈ adcForms 0x10#8 0x1234#16 ∧
    (.sbcImm 0x10#8, .immediate 0x10#8) ∈ sbcForms 0x10#8 0x1234#16 ∧
    (.andImm 0x10#8, .immediate 0x10#8) ∈ andForms 0x10#8 0x1234#16 ∧
    (.oraImm 0x10#8, .immediate 0x10#8) ∈ oraForms 0x10#8 0x1234#16 ∧
    (.eorImm 0x10#8, .immediate 0x10#8) ∈ eorForms 0x10#8 0x1234#16 := by decide

theorem witness_forms_counts :
    (.aslAcc, .accumulator) ∈ aslForms 0x10#8 0x1234#16 ∧ (.lsrAcc, .accumulator) ∈ lsrForms 0x10#8 0x1234#16 ∧
    (.rolAbx 0x1234#16, .memory (.absoluteX 0x1234#16)) ∈ rolForms 0x10#8 0x1234#16 ∧
    (.rorZp 0x10#8, .memory (.zeroPage 0x10#8)) ∈ rorForms 0x10#8 0x1234#16 ∧
    (.incAbx 0x1234#16, .absoluteX 0x1234#16) ∈ incForms 0x10#8 0x1234#16 ∧
    (.decZp 0x10#8, .zeroPage 0x10#8) ∈ decForms 0x10#8 0x1234#16 ∧
    (.cmpImm 0x10#8, .immediate 0x10#8) ∈ cmpForms 0x10#8 0x1234#16 ∧
    (.cpxImm 0x10#8, .immediate 0x10#8) ∈ cpxForms 0x10#8 0x1234#16 ∧
    (.cpyImm 0x10#8, .immediate 0x10#8) ∈ cpyForms 0x10#8 0x1234#16 ∧
    (.bitAbs 0x1234#16, .absolute 0x1234#16) ∈ bitForms 0x10#8 0x1234#16 ∧
    .undef02 ∈ undefinedInstrs ∧ .undefFF ∈ undefinedInstrs := by decide

/-- The signed overflow boundary: 0x7F + 1 overflows, and so does 0x80 - 1 with carry set (vectors T42.1, T42.24). -/
theorem witness_CarryIsUnsignedAndOverflowSigned :
    gives (exec (.adcImm 0x01#8) { State.reset with a := 0x7F#8 })
      (fun t => t.flag .overflow && t.a == 0x80#8) = true ∧
    gives (exec (.sbcImm 0x01#8) { State.reset with a := 0x80#8, p := 0x21#8 })
      (fun t => t.flag .overflow && t.flag .carry && t.a == 0x7F#8) = true := by decide

/-- Both values of `JMP_IND_PAGE_WRAP`, with the pointer at the end of a page and of memory (vectors T48.4, T48.5;
48_jump_call_return.md R216 for the pointer 0xFFFF). -/
theorem witness_JumpsReplacePc :
    standardParams.jmpIndPageWrap = false ∧ pointerHighAddress standardParams 0x02FF#16 = 0x0300#16 ∧
    pointerHighAddress ⟨[], true, false⟩ 0x02FF#16 = 0x0200#16 ∧
    pointerHighAddress standardParams 0xFFFF#16 = 0x0000#16 ∧
    pointerHighAddress ⟨[], true, false⟩ 0xFFFF#16 = 0xFF00#16 := by decide

theorem witness_RtsUndoesJsr :
    ∃ t u : State, exec (.jsr 0x0700#16) { State.reset with sp := 0x00#8, pc := 0x0603#16 } = .next t ∧
      u.sp = t.sp ∧
      u.memRead (stackAddress 0x00#8) = t.memRead (stackAddress 0x00#8) ∧
      u.memRead (stackAddress (0x00#8 - 1#8)) = t.memRead (stackAddress (0x00#8 - 1#8)) ∧ u.a ≠ t.a :=
  ⟨(pushWord 0x0602#16 { State.reset with sp := 0x00#8, pc := 0x0603#16 }).setPc 0x0700#16,
    ((pushWord 0x0602#16 { State.reset with sp := 0x00#8, pc := 0x0603#16 }).setPc 0x0700#16).setA 0x55#8,
    rfl, rfl, rfl, rfl, by decide⟩

theorem witness_PullUndoesPush :
    (∃ t u : State, exec .pha { State.reset with a := 0x42#8 } = .next t ∧ u.sp = t.sp ∧
      u.memRead (stackAddress 0xFF#8) = t.memRead (stackAddress 0xFF#8) ∧ u.a ≠ t.a) ∧
    ∃ t u : State, ({ State.reset with p := 0xE3#8 } : State).p[5] = true ∧
      exec .php { State.reset with p := 0xE3#8 } = .next t ∧ u.sp = t.sp ∧
      u.memRead (stackAddress 0xFF#8) = t.memRead (stackAddress 0xFF#8) ∧ u.p ≠ t.p :=
  ⟨⟨push8 0x42#8 { State.reset with a := 0x42#8 }, (push8 0x42#8 { State.reset with a := 0x42#8 }).setA 0x00#8,
      rfl, rfl, rfl, by decide⟩,
    ⟨push8 0xE3#8 { State.reset with p := 0xE3#8 }, (push8 0xE3#8 { State.reset with p := 0xE3#8 }).setP 0x20#8,
      by decide, rfl, rfl, rfl, by decide⟩⟩

theorem witness_DecodeOfEncodeIsTheInstruction :
    (Instr.ldaAbs 0x1234#16).wellFormed standardParams = true ∧ (Instr.ldaZp 0xFF#8).wellFormed withoutA9 = true ∧
    Instr.undefFF.wellFormed standardParams = true := by decide

/-- Both clauses of the decoder's totality. -/
theorem witness_EveryByteStringHasOneMeaning :
    withoutA9.omits 0xA9#8 = true ∧ withoutA9.omits 0xA8#8 = false := by decide

theorem witness_LengthFollowsFromTheOpcodeByte :
    (Instr.ldaAbs 0x0000#16).opcode = (Instr.ldaAbs 0xFFFF#16).opcode := by decide

theorem witness_OpcodeTableMatchesTheDecoder :
    (.lda, .immediate, 0xA9#8) ∈ encodingTable ∧ (.brk, .implied, 0x00#8) ∈ encodingTable := by decide

/-- An unknown mnemonic, a mode without an encoding, and a record with one, for a branch and at two bytes of operand. -/
theorem witness_AssembledBytesDecodeToTheRecord :
    mnemonicOf "XYZ".toList = none ∧
    mnemonicOf "STA".toList = some .sta ∧ opcodeFor .sta (encoderMode .sta .immediate) = none ∧
    mnemonicOf "bne".toList = some .bne ∧ opcodeFor .bne (encoderMode .bne .zeroPage) = some 0xD0#8 ∧
    encodeRecord ⟨"bne".toList, .zeroPage, 0x80, none⟩ = [0xD0#8, 0x80#8] ∧
    mnemonicOf "jmp".toList = some .jmp ∧ opcodeFor .jmp (encoderMode .jmp .absolute) = some 0x4C#8 ∧
    encodeRecord ⟨"jmp".toList, .absolute, 0xFFFE, none⟩ = [0x4C#8, 0xFE#8, 0xFF#8] := by decide

theorem witness_AssembledBytesDecodeToTheRecord_rows :
    (.lda, .immediate, 0xA9#8) ∈ encodingTable ∧ ("LDA".toList, .lda) ∈ mnemonicNames := by decide

/-- The last address, and a buffer that fills memory to its end. -/
theorem witness_LoadCopiesTheBuffer :
    65535 ≤ 65535 ∧ 65535 + [(0x11#8 : Byte)].length ≤ 65536 ∧ (0xFFFE#16 : Word).toNat < 65535 ∧
    (5 : Nat) + ([] : List Byte).length ≤ 65536 := by decide

theorem witness_RequestsOutsideMemoryAreRefused :
    hostLoad (-1) [] State.reset = .refused .loadOutsideMemory ∧
    hostLoad 65536 [] State.reset = .refused .loadOutsideMemory ∧
    hostLoad 65535 [0x11#8, 0x22#8] State.reset = .refused .loadOutsideMemory ∧
    hostSetPc (-1) State.reset = .refused .setPcOutsideMemory ∧
    hostSetPc 65536 State.reset = .refused .setPcOutsideMemory := ⟨rfl, rfl, rfl, rfl, rfl⟩

theorem witness_HostAccessorsDoWhatTheyName :
    gives (hostSetPc 65535 State.reset) (fun t => t.pc == 0xFFFF#16) = true ∧ readByte (-1) State.reset = 0x00#8 ∧
    readByte 65536 (base [0xEA#8]) = 0x00#8 := by decide

/-- The two clauses of the loop, at the ceiling and below it. -/
theorem witness_RunIsTheGuardedLoopOfStep :
    (({ base [0xEA#8] with halted := true } : State).halted = true ∧
      3 ≤ ({ base [0xEA#8] with cycles := 3 } : State).cycles) ∧
    (base [0xEA#8]).halted = false ∧ (base [0xEA#8]).cycles < 1 ∧
    gives (run 2 (base [0xEA#8])) (fun t => t.halted && t.cycles == 2) = true := by decide

theorem witness_EveryRunReturnsAtHaltOrCeiling : (base [0xEA#8]).cycles ≤ 2 := by decide

/-- A state that meets the invariant, and a next state of each host transaction on it. -/
theorem witness_HostTransactionsKeepTheInvariant :
    (base [0x28#8]).Inv ∧
    gives (hostAct (.load 0xFFFF [0x11#8]) (base [0x28#8])) (fun t => t.memRead 0xFFFF#16 == 0x11#8) = true ∧
    gives (hostAct (.setPc 65535) (base [0x28#8])) (fun t => t.pc == 0xFFFF#16) = true ∧
    gives (hostAct .clearRunState (base [0x28#8])) (fun t => t.cycles == 0) = true ∧
    gives (hostAct .clearHalted (base [0x28#8])) (fun t => !t.halted) = true ∧
    gives (hostAct .clearCycles (base [0x28#8])) (fun t => t.cycles == 0) = true ∧
    gives (hostAct (.run 1) (base [0x28#8])) (fun t => t.sp == 0x00#8) = true := by
  refine ⟨⟨by decide, by decide⟩, by decide, by decide, by decide, by decide, by decide, by decide⟩

end Sys2Proof.Tests
end

section
/-! PROOFS. The instruction at PC and the Step, said once: the Step of a running core is the effect of the instruction
at PC on the fetched state, and neither the effect nor the length of the fetch looks at more than PC, memory and the
parameters. -/

namespace Sys2Proof

/-- The instruction a matrix cell makes of the two bytes after its opcode byte (30_encoding.md R81, R84). -/
def Shape.instr (sh : Shape) (b1 b2 : Byte) : Instr :=
  match sh with
  | .f1 i => i
  | .f2 make => make b1
  | .f3 make => make (Machine.wordOf b2 b1)

/-- The number of bytes of a matrix cell's format (30_encoding.md R81). -/
def Shape.length : Shape → Nat
  | .f1 _ => 1
  | .f2 _ => 2
  | .f3 _ => 3

/-- The matrix of R91 and the table of R90 agree: what a byte's cell makes is encoded with that byte. -/
theorem opcode_instr_shapeOf (op b1 b2 : Byte) : ((shapeOf op).instr b1 b2).opcode = op := by
  refine Machine.byte_cases (motive := fun op => ((shapeOf op).instr b1 b2).opcode = op) ?_ op
  intro n
  fin_cases n <;> rfl

namespace Machine

/-- Whether the opcode byte at PC is left out of `OPSET` (30_encoding.md R87). -/
def omittedAtPc (s : State) : Bool := s.params.omits (s.memRead s.pc)

/-- The instruction whose bytes lie at PC, when its opcode byte is in `OPSET`. -/
def instrAtPc (s : State) : Instr :=
  (shapeOf (s.memRead s.pc)).instr (s.memRead (s.pc + 1#16)) (s.memRead (s.pc + 1#16 + 1#16))

/-- How far the fetch moves PC: one byte for a byte outside `OPSET` (30_encoding.md R92). -/
def fetchLength (s : State) : Nat :=
  if omittedAtPc s then 1 else (shapeOf (s.memRead s.pc)).length

/-- The state in which the instruction at PC is executed: PC past it, Cycles counted (60_exceptions.md R270). -/
def fetched (s : State) : State :=
  { s with pc := s.pc + BitVec.ofNat 16 (fetchLength s), cycles := s.cycles + 1 }

/-- The effect of the Step at PC: a byte outside `OPSET` does nothing (49_stack_transfer_flag_system.md R262). -/
def fetchedEffect (s : State) : Effect :=
  if omittedAtPc s then .nop else effectOf (instrAtPc s)

@[simp] theorem fetched_p (s : State) : (fetched s).p = s.p := rfl
@[simp] theorem fetched_mem (s : State) : (fetched s).mem = s.mem := rfl
@[simp] theorem fetched_halted (s : State) : (fetched s).halted = s.halted := rfl
@[simp] theorem fetched_cycles (s : State) : (fetched s).cycles = s.cycles + 1 := rfl
@[simp] theorem fetched_params (s : State) : (fetched s).params = s.params := rfl

theorem opcode_instrAtPc (s : State) : (instrAtPc s).opcode = s.memRead s.pc :=
  opcode_instr_shapeOf _ _ _

theorem fetchedEffect_of_omitted {s : State} (h : omittedAtPc s = true) : fetchedEffect s = .nop := if_pos h

theorem fetchedEffect_of_kept {s : State} (h : omittedAtPc s = false) : fetchedEffect s = effectOf (instrAtPc s) :=
  if_neg (by simp [h])

theorem fetchInstr_of_omitted {s : State} (h : omittedAtPc s = true) : fetchInstr s = (none, fetched s) := by
  have hop : s.params.omits (s.memRead s.pc) = true := h
  simp only [fetchInstr, decodeOpcode, fetch8_byte, hop, fetched, fetchLength, h, if_true]
  rfl

theorem fetchInstr_of_kept {s : State} (h : omittedAtPc s = false) :
    fetchInstr s = (some (instrAtPc s), fetched s) := by
  have hop : s.params.omits (s.memRead s.pc) = false := h
  simp only [fetchInstr, decodeOpcode, fetch8_byte, hop, fetched, fetchLength, instrAtPc, h, Bool.false_eq_true,
    if_false]
  cases shapeOf (s.memRead s.pc) with
  | f1 i => rfl
  | f2 make =>
    have hpc : s.pc + 1#16 + 1#16 = s.pc + 2#16 := BitVec.add_assoc ..
    simp [Shape.instr, Shape.length, fetch8, State.countCycle, State.setPc, State.memRead, hpc]
  | f3 make =>
    have hpc : s.pc + 1#16 + 1#16 + 1#16 = s.pc + 3#16 := by simp only [BitVec.add_assoc]; rfl
    simp [Shape.instr, Shape.length, fetch16, fetch8, State.countCycle, State.setPc, State.memRead, hpc]

/-- While Halted is 1 a Step changes nothing (60_exceptions.md R271). -/
theorem step_of_halted {s : State} (h : s.halted = true) : step s = .next s := if_pos h

/-- The Step of a running core (60_exceptions.md R270). -/
theorem step_of_running {s : State} (h : s.halted = false) :
    step s = .next (runEffect (fetchedEffect s) (fetched s)) := by
  rw [step, if_neg (by simp [h])]
  cases ho : omittedAtPc s with
  | true => rw [fetchInstr_of_omitted ho, fetchedEffect_of_omitted ho]; rfl
  | false => rw [fetchInstr_of_kept ho, fetchedEffect_of_kept ho]; exact exec_eq_effect _ _

/-- All that a Step can do. -/
theorem step_cases {s t : State} (h : step s = .next t) :
    (s.halted = true ∧ t = s) ∨ (s.halted = false ∧ t = runEffect (fetchedEffect s) (fetched s)) := by
  cases hs : s.halted with
  | true =>
    rw [step_of_halted hs] at h
    exact .inl ⟨rfl, (Host.Outcome.next.inj h).symm⟩
  | false =>
    rw [step_of_running hs] at h
    exact .inr ⟨rfl, (Host.Outcome.next.inj h).symm⟩

end Machine
end Sys2Proof
end

section
/-! PROOFS. What each effect leaves unchanged, and what each effect of an instruction has to do with the lists of
10_state.md R21 to R28. -/

namespace Sys2Proof.Machine

open Sys2Proof.Claims

/-- The effects that write A (10_state.md R21). -/
def Effect.writesA : Effect → Bool
  | .loadA _ | .adc _ | .sbc _ | .and _ | .ora _ | .eor _ | .pla | .txa | .tya => true
  | .asl .accumulator | .lsr .accumulator | .rol .accumulator | .ror .accumulator => true
  | _ => false

/-- The effects that write X (10_state.md R21). -/
def Effect.writesX : Effect → Bool
  | .loadX _ | .inx | .dex | .tax | .tsx => true
  | _ => false

/-- The effects that write Y (10_state.md R21). -/
def Effect.writesY : Effect → Bool
  | .loadY _ | .iny | .dey | .tay => true
  | _ => false

/-- The effects that write SP (10_state.md R22). -/
def Effect.writesSp : Effect → Bool
  | .pha | .php | .pla | .plp | .jsr _ | .rts | .rti | .txs => true
  | _ => false

/-- The effects that write PC (10_state.md R24). -/
def Effect.writesPc : Effect → Bool
  | .branch .. | .jump _ | .jumpIndirect _ | .jsr _ | .rts | .rti => true
  | _ => false

/-- The effect that sets Halted (10_state.md R30). -/
def Effect.halts : Effect → Bool
  | .brk => true
  | _ => false

/-- The effects that load all of P from the stack, bit 5 forced to 1 (10_state.md R26). -/
def Effect.loadsStatus : Effect → Bool
  | .plp | .rti => true
  | _ => false

/-- The flags an effect writes (10_state.md R27, R28). -/
def Effect.writtenFlags : Effect → List Flag
  | .loadA _ | .loadX _ | .loadY _ | .and _ | .ora _ | .eor _ | .inc _ | .dec _ | .inx | .iny | .dex | .dey
  | .pla | .tax | .txa | .tay | .tya | .tsx => [.zero, .negative]
  | .adc _ | .sbc _ => [.carry, .zero, .overflow, .negative]
  | .cmp _ | .cpx _ | .cpy _ | .asl _ | .lsr _ | .rol _ | .ror _ => [.carry, .zero, .negative]
  | .bit _ => [.zero, .overflow, .negative]
  | .plp | .rti => [.carry, .zero, .interruptDisable, .decimal, .brk, .overflow, .negative]
  | .setFlag f _ => [f]
  | _ => []

/-! The lists of the claims, which go by mnemonic, are those of the effects. -/

theorem writesA_eq_effect (i : Instr) : writesA i = (effectOf i).writesA := by cases i <;> rfl
theorem writesX_eq_effect (i : Instr) : writesX i = (effectOf i).writesX := by cases i <;> rfl
theorem writesY_eq_effect (i : Instr) : writesY i = (effectOf i).writesY := by cases i <;> rfl
theorem writesSp_eq_effect (i : Instr) : writesSp i = (effectOf i).writesSp := by cases i <;> rfl
theorem writesPc_eq_effect (i : Instr) : writesPc i = (effectOf i).writesPc := by cases i <;> rfl

theorem plpOrRti_eq_effect (i : Instr) : isOneOf i [.plp, .rti] = (effectOf i).loadsStatus := by cases i <;> rfl

theorem writesFlag_eq_effect (f : Flag) (i : Instr) :
    writesFlag f i = decide (f ∈ (effectOf i).writtenFlags) := by
  cases f <;> cases i <;> rfl

theorem effectOf_halts_of_ne_brk {i : Instr} (h : i ≠ .brk) : (effectOf i).halts = false := by
  cases i with
  | brk => exact absurd rfl h
  | _ => rfl

theorem effectOf_halts (i : Instr) : (effectOf i).halts = (i.opcode == 0x00#8) := by cases i <;> rfl

/-! The frame of each effect, one field at a time. -/

theorem runEffect_a {e : Effect} (h : e.writesA = false) (s : State) : (runEffect e s).a = s.a := by
  cases e with
  | asl t | lsr t | rol t | ror t =>
    cases t with
    | accumulator => cases h
    | memory m => rfl
  | loadA | adc | sbc | and | ora | eor | pla | txa | tya => cases h
  | _ => simp [runEffect]

theorem runEffect_x {e : Effect} (h : e.writesX = false) (s : State) : (runEffect e s).x = s.x := by
  cases e with
  | loadX | inx | dex | tax | tsx => cases h
  | _ => simp [runEffect]

theorem runEffect_y {e : Effect} (h : e.writesY = false) (s : State) : (runEffect e s).y = s.y := by
  cases e with
  | loadY | iny | dey | tay => cases h
  | _ => simp [runEffect]

theorem runEffect_sp {e : Effect} (h : e.writesSp = false) (s : State) : (runEffect e s).sp = s.sp := by
  cases e with
  | pha | php | pla | plp | jsr | rts | rti | txs => cases h
  | _ => simp [runEffect]

theorem runEffect_pc {e : Effect} (h : e.writesPc = false) (s : State) : (runEffect e s).pc = s.pc := by
  cases e with
  | branch | jump | jumpIndirect | jsr | rts | rti => cases h
  | _ => simp [runEffect]

@[simp] theorem runEffect_halted (e : Effect) (s : State) : (runEffect e s).halted = (e.halts || s.halted) := by
  cases e with
  | brk => rfl
  | _ => simp [runEffect, Effect.halts]

@[simp] theorem runEffect_cycles (e : Effect) (s : State) : (runEffect e s).cycles = s.cycles := by
  cases e <;> simp [runEffect]

@[simp] theorem runEffect_params (e : Effect) (s : State) : (runEffect e s).params = s.params := by
  cases e <;> simp [runEffect]

/-! Bit 5 of P (10_state.md R26). -/

@[simp] theorem State.compare_unusedBit (s : State) (r v : Byte) : (s.compare r v).p[5] = s.p[5] := by
  simp [State.compare]

@[simp] theorem State.bitTest_unusedBit (s : State) (m : Byte) : (s.bitTest m).p[5] = s.p[5] := by
  simp [State.bitTest]

@[simp] theorem State.writeTarget_p (s : State) (t : Target) (v : Byte) : (s.writeTarget t v).p = s.p := by
  cases t <;> rfl

@[simp] theorem shiftTo_unusedBit (t : Target) (b : Bool) (r : Byte) (s : State) :
    (shiftTo t b r s).p[5] = s.p[5] := by
  simp [shiftTo]

/-- Bit 5 of P is kept by every effect but the two that load all of P, and they set it. -/
theorem runEffect_unusedBit (e : Effect) (s : State) : (runEffect e s).p[5] = (e.loadsStatus || s.p[5]) := by
  cases e with
  | loadA | loadX | loadY => simp [runEffect, loadA, loadX, loadY, Effect.loadsStatus]
  | adc | sbc => simp [runEffect, addWithCarry, subtractWithCarry, Effect.loadsStatus]
  | and | ora | eor => simp [runEffect, andWithA, orWithA, xorWithA, setLogic, Effect.loadsStatus]
  | cmp | cpx | cpy => simp [runEffect, compareA, compareX, compareY, Effect.loadsStatus]
  | bit => simp [runEffect, testBits, Effect.loadsStatus]
  | asl | lsr | rol | ror =>
    simp [runEffect, shiftLeft, shiftRight, rotateLeft, rotateRight, Effect.loadsStatus]
  | inc | dec => simp [runEffect, incrementCell, decrementCell, updateCell, Effect.loadsStatus]
  | inx | iny | dex | dey => simp [runEffect, countX, countY, Effect.loadsStatus]
  | _ => simp [runEffect, Effect.loadsStatus]

end Sys2Proof.Machine

namespace Sys2Proof.Claims

open Sys2Proof.Machine

/-! The flags (10_state.md R27, R28). -/

theorem OtherFlagsKept.of_p_eq {w : List Flag} {s t : State} (h : t.p = s.p) : OtherFlagsKept w s t :=
  fun f _ => State.flag_congr h f

theorem OtherFlagsKept.setFlag {w : List Flag} {s t : State} (h : OtherFlagsKept w s t) {f : Flag} (hf : f ∈ w)
    (b : Bool) : OtherFlagsKept w s (t.setFlag f b) := fun g hg =>
  (State.flag_setFlag_other t b fun hfg : f = g => hg (hfg ▸ hf)).trans (h g hg)

theorem OtherFlagsKept.setZN {w : List Flag} {s t : State} (h : OtherFlagsKept w s t) (hz : .zero ∈ w)
    (hn : .negative ∈ w) (v : Byte) : OtherFlagsKept w s (t.setZN v) :=
  (h.setFlag hz _).setFlag hn _

/-- Every effect keeps the flags it does not write. -/
theorem runEffect_otherFlagsKept (e : Effect) (s : State) : OtherFlagsKept e.writtenFlags s (runEffect e s) := by
  cases e with
  | loadA | loadX | loadY | and | ora | eor | inc | dec | inx | iny | dex | dey | pla | tax | txa | tay | tya | tsx =>
    change OtherFlagsKept [.zero, .negative] s _
    exact OtherFlagsKept.setZN (.of_p_eq rfl) (by decide) (by decide) _
  | adc | sbc =>
    change OtherFlagsKept [.carry, .zero, .overflow, .negative] s _
    refine OtherFlagsKept.setZN (t := State.setA _ _) ?_ (by decide) (by decide) _
    exact OtherFlagsKept.setFlag (OtherFlagsKept.setFlag (.of_p_eq rfl) (by decide) _) (by decide) _
  | cmp | cpx | cpy =>
    change OtherFlagsKept [.carry, .zero, .negative] s _
    exact ((OtherFlagsKept.of_p_eq rfl).setFlag (by decide) _).setZN (by decide) (by decide) _
  | asl | lsr | rol | ror =>
    change OtherFlagsKept [.carry, .zero, .negative] s _
    exact ((OtherFlagsKept.of_p_eq (State.writeTarget_p ..)).setFlag (by decide) _).setZN (by decide) (by decide) _
  | bit =>
    change OtherFlagsKept [.zero, .overflow, .negative] s _
    exact (((OtherFlagsKept.of_p_eq rfl).setFlag (by decide) _).setFlag (by decide) _).setFlag (by decide) _
  | plp | rti => exact fun f hf => absurd (by cases f <;> decide) hf
  | setFlag f b => exact (OtherFlagsKept.of_p_eq rfl).setFlag (List.mem_singleton.mpr rfl) b
  | _ => exact .of_p_eq (by simp [runEffect])

end Sys2Proof.Claims

namespace Sys2Proof.Proofs

open Sys2Proof.Machine Sys2Proof.Claims

/-- Settles O23: the effect of an instruction outside a register's list keeps the register. -/
theorem registersChangeOnlyWhereNamed : Obligations.RegistersChangeOnlyWhereNamed := by
  intro i s t h
  obtain rfl := next_eq_effect h
  rw [writesA_eq_effect, writesX_eq_effect, writesY_eq_effect, writesSp_eq_effect]
  exact ⟨fun h => runEffect_a h s, fun h => runEffect_x h s, fun h => runEffect_y h s, fun h => runEffect_sp h s⟩

/-- Settles O24: the effect of an instruction keeps the flags it does not write, and bit 5 of P. -/
theorem flagsChangeOnlyWhereNamed : Obligations.FlagsChangeOnlyWhereNamed := by
  intro i s t h
  obtain rfl := next_eq_effect h
  rw [plpOrRti_eq_effect, runEffect_unusedBit]
  refine ⟨fun f hf => runEffect_otherFlagsKept (effectOf i) s f ?_, fun h => ?_, fun h => ?_⟩
  · rwa [writesFlag_eq_effect, decide_eq_false_iff_not] at hf
  · rw [h, Bool.false_or]
  · rw [h, Bool.true_or]

/-- Settles O26: only a control transfer's effect moves PC, only BRK's sets Halted. -/
theorem controlStateChangesOnlyWhereNamed : Obligations.ControlStateChangesOnlyWhereNamed := by
  intro i s t h
  obtain rfl := next_eq_effect h
  rw [writesPc_eq_effect]
  refine ⟨fun h => runEffect_pc h s, fun h => ?_, runEffect_cycles _ s, runEffect_params _ s⟩
  rw [runEffect_halted, effectOf_halts_of_ne_brk h, Bool.false_or]

/-- Settles O9: the fetch counts one, and no effect counts. -/
theorem everyRunningStepCountsOne : Obligations.EveryRunningStepCountsOne := by
  intro s hs
  exact ⟨_, step_of_running hs, by simp⟩

end Sys2Proof.Proofs

namespace Sys2Proof.Machine

/-- The effect at PC is BRK's exactly on the byte 0x00, when it is in `OPSET`. -/
theorem fetchedEffect_halts_iff (s : State) :
    (fetchedEffect s).halts = true ↔ s.memRead s.pc = 0x00#8 ∧ s.params.omits 0x00#8 = false := by
  cases ho : omittedAtPc s with
  | true =>
    rw [fetchedEffect_of_omitted ho]
    refine ⟨nofun, fun ⟨hop, hkept⟩ => ?_⟩
    rw [omittedAtPc, hop, hkept] at ho
    cases ho
  | false =>
    rw [fetchedEffect_of_kept ho, effectOf_halts, opcode_instrAtPc, beq_iff_eq]
    exact ⟨fun hop => ⟨hop, hop ▸ ho⟩, And.left⟩

end Sys2Proof.Machine

namespace Sys2Proof.Proofs

open Sys2Proof.Machine Sys2Proof.Claims

/-- Settles O10: a Step sets Halted exactly when the effect at PC is that of BRK. -/
theorem onlyBrkHaltsTheCore : Obligations.OnlyBrkHaltsTheCore := by
  intro s t hs h
  rw [step_of_running hs] at h
  obtain rfl := Host.Outcome.next.inj h
  rw [runEffect_halted, fetched_halted, hs, Bool.or_false]
  exact fetchedEffect_halts_iff s

end Sys2Proof.Proofs
end

section
/-! PROOFS. The invariant: canonical memory and bit 5 of P (10_state.md R26, R32; log entry 25). -/

namespace Sys2Proof.Machine

theorem push8_wf {s : State} (v : Byte) (h : s.mem.wf = true) : (push8 v s).mem.wf = true :=
  State.memWrite_wf _ v h

theorem pushWord_wf {s : State} (w : Word) (h : s.mem.wf = true) : (pushWord w s).mem.wf = true :=
  push8_wf _ (push8_wf _ h)

theorem shiftTo_wf {s : State} (t : Target) (b : Bool) (r : Byte) (h : s.mem.wf = true) :
    (shiftTo t b r s).mem.wf = true := by
  cases t with
  | accumulator => exact h
  | memory m => exact State.memWrite_wf _ r h

/-- Every effect keeps memory canonical: it writes inside the address space or not at all. -/
theorem runEffect_wf (e : Effect) {s : State} (h : s.mem.wf = true) : (runEffect e s).mem.wf = true := by
  cases e with
  | storeA | storeX | storeY | inc | dec => exact State.memWrite_wf _ _ h
  | asl t | lsr t | rol t | ror t => exact shiftTo_wf t _ _ h
  | jsr => exact pushWord_wf _ h
  | pha | php => exact push8_wf _ h
  | _ => simpa [runEffect] using h

theorem State.Inv.runEffect {s : State} (h : s.Inv) (e : Effect) : (runEffect e s).Inv := by
  obtain ⟨hmem, hbit⟩ := h
  exact ⟨runEffect_wf e hmem, by rw [runEffect_unusedBit, hbit, Bool.or_true]⟩

theorem State.Inv.memWrite {s : State} (h : s.Inv) (addr : Word) (v : Byte) : (s.memWrite addr v).Inv :=
  ⟨State.memWrite_wf addr v h.1, h.2⟩

theorem State.create_inv (sp : Byte) (pc : Word) (c : Params) : (State.create sp pc c).Inv :=
  ⟨Memory.wf_nil, by rw [State.create_p]; decide⟩

end Sys2Proof.Machine

namespace Sys2Proof.Proofs

open Sys2Proof.Machine Sys2Proof.Claims

/-- Settles O2: empty memory is canonical, and 0x20 has bit 5. -/
theorem resetStateMeetsTheInvariant : Obligations.ResetStateMeetsTheInvariant :=
  ⟨State.create_inv _ _ _, State.create_inv⟩

/-- Settles O3: the fetch touches neither P nor memory, and every effect keeps the invariant. -/
theorem stepKeepsTheInvariant : Obligations.StepKeepsTheInvariant := by
  intro s t hs h
  obtain ⟨_, rfl⟩ | ⟨_, rfl⟩ := step_cases h
  · exact hs
  · have hfetched : (fetched s).Inv := hs
    exact hfetched.runEffect _

end Sys2Proof.Proofs
end

section
/-! PROOFS. What Steps and the host's writes keep, every host transaction keeps (70_reset_and_hazards.md R320). -/

namespace Sys2Proof.Machine

/-- A property that every Step keeps, a Run keeps. -/
theorem runBounded_keeps {P : State → Prop} (hstep : ∀ s t, P s → step s = .next t → P t) {bound ceiling : Nat}
    {s t : State} (hs : P s) (h : runBounded bound ceiling s = .next t) : P t := by
  induction bound generalizing s with
  | zero => exact Host.Outcome.next.inj h ▸ hs
  | succ bound ih =>
    rw [runBounded] at h
    split at h
    · exact Host.Outcome.next.inj h ▸ hs
    · cases hu : step s with
      | next u =>
        rw [hu] at h
        exact ih (hstep s u hs hu) h
      | fault r => exact nomatch r
      | refused r => rw [hu] at h; cases h

/-- A property that every write of a byte keeps, a Load keeps. -/
theorem loadBytes_keeps {P : State → Prop} (hwrite : ∀ s addr v, P s → P (s.memWrite addr v)) (buf : List Byte)
    {s : State} (origin : Nat) (hs : P s) : P (s.loadBytes origin buf) := by
  induction buf generalizing s origin with
  | nil => exact hs
  | cons b rest ih => exact ih (origin + 1) (hwrite s _ b hs)

/-- A property kept by every Step, every write of a byte, SetPC and both clears, every host transaction keeps. -/
theorem hostAct_keeps {P : State → Prop} (hstep : ∀ s t, P s → step s = .next t → P t)
    (hwrite : ∀ s addr v, P s → P (s.memWrite addr v)) (hpc : ∀ s addr, P s → P (s.setPc addr))
    (hhalted : ∀ s, P s → P s.clearHalted) (hcycles : ∀ s, P s → P s.clearCycles) (act : HostAction) {s t : State}
    (hs : P s) (h : hostAct act s = .next t) : P t := by
  cases act with
  | load origin buf =>
    rw [hostAct, hostLoad] at h
    split at h
    · exact Host.Outcome.next.inj h ▸ loadBytes_keeps hwrite buf _ hs
    · cases h
  | setPc addr =>
    rw [hostAct, hostSetPc] at h
    split at h
    · exact Host.Outcome.next.inj h ▸ hpc s _ hs
    · cases h
  | clearRunState => exact Host.Outcome.next.inj h ▸ hcycles _ (hhalted s hs)
  | clearHalted => exact Host.Outcome.next.inj h ▸ hhalted s hs
  | clearCycles => exact Host.Outcome.next.inj h ▸ hcycles s hs
  | run ceiling => exact runBounded_keeps hstep hs h

theorem step_params {s t : State} (h : step s = .next t) : t.params = s.params := by
  obtain ⟨_, rfl⟩ | ⟨_, rfl⟩ := step_cases h <;> simp

end Sys2Proof.Machine

namespace Sys2Proof.Proofs

open Sys2Proof.Machine Sys2Proof.Claims

/-- Settles O60: the host writes memory, PC, Halted and Cycles alone, and a Run is Steps. -/
theorem hostTransactionsKeepTheInvariant : Obligations.HostTransactionsKeepTheInvariant := fun act _ _ hs h =>
  hostAct_keeps stepKeepsTheInvariant (fun _ addr v hs => hs.memWrite addr v) (fun _ _ hs => hs) (fun _ hs => hs)
    (fun _ hs => hs) act hs h

/-- Settles O4, by induction on how the state is reached. -/
theorem everyReachableStateMeetsTheInvariant : Obligations.EveryReachableStateMeetsTheInvariant := by
  intro s hs
  induction hs with
  | created sp pc c => exact State.create_inv sp pc c
  | stepped s t _ h ih => exact stepKeepsTheInvariant s t ih h
  | acted act s t _ h ih => exact hostTransactionsKeepTheInvariant act s t ih h

/-- Settles O11: no effect and no write of the host reaches the parameters. -/
theorem parametersNeverChange : Obligations.ParametersNeverChange := by
  rintro s t (h | ⟨act, h⟩)
  · exact step_params h
  · exact hostAct_keeps (P := fun u => u.params = s.params) (fun _ _ hu h => (step_params h).trans hu)
      (fun _ _ _ hu => hu) (fun _ _ hu => hu) (fun _ hu => hu) (fun _ hu => hu) act rfl h

end Sys2Proof.Proofs
end

section
/-! PROOFS. Cycles influences nothing (10_state.md R37): an effect commutes with any change of Cycles, and the fetch
reads PC, memory and the parameters alone. -/

namespace Sys2Proof.Machine

theorem branchIf_withCycles (c : Bool) (offset : Byte) (s : State) (n : Nat) :
    branchIf c offset { s with cycles := n } = { branchIf c offset s with cycles := n } := by
  cases c <;> rfl

theorem runEffect_withCycles (e : Effect) (s : State) (n : Nat) :
    runEffect e { s with cycles := n } = { runEffect e s with cycles := n } := by
  cases e with
  | branch f wanted offset => exact branchIf_withCycles ..
  | asl t | lsr t | rol t | ror t => cases t <;> rfl
  | _ => rfl

end Sys2Proof.Machine

namespace Sys2Proof.Proofs

open Sys2Proof.Machine Sys2Proof.Claims

/-- Settles O12: with another Cycles the same effect runs, on a fetched state that differs in Cycles alone. -/
theorem nothingDependsOnCycles : Obligations.NothingDependsOnCycles := by
  intro s t n h
  obtain ⟨hs, rfl⟩ | ⟨hs, rfl⟩ := step_cases h
  · rw [Nat.sub_self, Nat.add_zero]
    exact step_of_halted hs
  · have hfetched : fetched { s with cycles := n } = { fetched s with cycles := n + 1 } := rfl
    have heffect : fetchedEffect { s with cycles := n } = fetchedEffect s := rfl
    rw [step_of_running (s := { s with cycles := n }) hs, hfetched, heffect, runEffect_withCycles, runEffect_cycles,
      fetched_cycles, Nat.add_sub_cancel_left]

end Sys2Proof.Proofs
end

section
/-! PROOFS. I, D and B influence nothing (10_state.md R29): what an effect reads is the same in two states that differ
in them alone, and what it writes keeps the two states so. -/

namespace Sys2Proof.Claims

open Sys2Proof.Machine

/-- The effects that do not look at I, D or B: all but PHP and a branch on one of the three, which no instruction is. -/
def ignoresIDB : Effect → Bool
  | .php => false
  | .branch f _ _ => f ∉ [.interruptDisable, .decimal, .brk]
  | _ => true

theorem effectOf_ignoresIDB {i : Instr} (h : i.opcode ≠ 0x08#8) : ignoresIDB (effectOf i) = true := by
  cases i with
  | php => exact absurd rfl h
  | _ => rfl

theorem fetchedEffect_ignoresIDB {s : State} (h : s.memRead s.pc ≠ 0x08#8) : ignoresIDB (fetchedEffect s) = true := by
  cases ho : omittedAtPc s with
  | true => rw [fetchedEffect_of_omitted ho]; rfl
  | false => rw [fetchedEffect_of_kept ho]; exact effectOf_ignoresIDB (by rwa [opcode_instrAtPc])

namespace AgreeExceptIDB

variable {s t : State} (h : AgreeExceptIDB s t)
include h

/-! What the two states have in common. -/

theorem a_eq : t.a = s.a := (congrArg State.a h.1 :)
theorem x_eq : t.x = s.x := (congrArg State.x h.1 :)
theorem y_eq : t.y = s.y := (congrArg State.y h.1 :)
theorem sp_eq : t.sp = s.sp := (congrArg State.sp h.1 :)
theorem pc_eq : t.pc = s.pc := (congrArg State.pc h.1 :)
theorem mem_eq : t.mem = s.mem := (congrArg State.mem h.1 :)
theorem halted_eq : t.halted = s.halted := (congrArg State.halted h.1 :)
theorem params_eq : t.params = s.params := (congrArg State.params h.1 :)

theorem memRead_eq (addr : Word) : t.memRead addr = s.memRead addr := State.memRead_congr h.mem_eq addr

theorem effectiveAddress_eq (m : MemOperand) : t.effectiveAddress m = s.effectiveAddress m :=
  State.effectiveAddress_congr h.x_eq h.y_eq h.mem_eq m

theorem operand_eq (o : Operand) : t.operand o = s.operand o :=
  State.operand_congr h.a_eq h.x_eq h.y_eq h.mem_eq o

theorem readTarget_eq (m : Target) : t.readTarget m = s.readTarget m := by
  cases m with
  | accumulator => exact h.a_eq
  | memory m => exact h.operand_eq (.memory m)

theorem indirectTarget_eq (ptr : Word) : t.indirectTarget ptr = s.indirectTarget ptr := by
  simp only [State.indirectTarget, h.memRead_eq, h.params_eq]

/-- The mask 0xE3 covers every flag but I, D and B. -/
theorem flag_eq {f : Flag} (hf : f ∉ [.interruptDisable, .decimal, .brk]) : t.flag f = s.flag f := by
  have covered : 0xE3#8 &&& f.mask = f.mask := by
    revert hf
    cases f <;> decide
  rw [State.flag, State.flag, ← covered, ← BitVec.and_assoc, ← BitVec.and_assoc, h.2]

theorem carryIn_eq : t.carryIn = s.carryIn := congrArg Bool.toNat (h.flag_eq (by decide))

theorem carryAtBit0_eq : t.carryAtBit0 = s.carryAtBit0 := by
  rw [State.carryAtBit0, State.carryAtBit0, h.flag_eq (by decide)]

theorem carryAtBit7_eq : t.carryAtBit7 = s.carryAtBit7 := by
  rw [State.carryAtBit7, State.carryAtBit7, h.flag_eq (by decide)]

/-! The same write to both keeps them so. -/

theorem setA (v : Byte) : AgreeExceptIDB (s.setA v) (t.setA v) := ⟨congrArg (State.setA · v) h.1, h.2⟩
theorem setX (v : Byte) : AgreeExceptIDB (s.setX v) (t.setX v) := ⟨congrArg (State.setX · v) h.1, h.2⟩
theorem setY (v : Byte) : AgreeExceptIDB (s.setY v) (t.setY v) := ⟨congrArg (State.setY · v) h.1, h.2⟩
theorem setSp (v : Byte) : AgreeExceptIDB (s.setSp v) (t.setSp v) := ⟨congrArg (State.setSp · v) h.1, h.2⟩
theorem setPc (w : Word) : AgreeExceptIDB (s.setPc w) (t.setPc w) := ⟨congrArg (State.setPc · w) h.1, h.2⟩
theorem halt : AgreeExceptIDB s.halt t.halt := ⟨congrArg State.halt h.1, h.2⟩

theorem memWrite (addr : Word) (v : Byte) : AgreeExceptIDB (s.memWrite addr v) (t.memWrite addr v) :=
  ⟨congrArg (State.memWrite · addr v) h.1, h.2⟩

theorem setFlag (f : Flag) (b : Bool) : AgreeExceptIDB (s.setFlag f b) (t.setFlag f b) := by
  have key : ∀ p : Byte, (if b then p ||| f.mask else p &&& ~~~f.mask) &&& 0xE3#8 =
      (if b then (p &&& 0xE3#8) ||| f.mask else (p &&& 0xE3#8) &&& ~~~f.mask) &&& 0xE3#8 := by
    cases f <;> cases b <;> decide
  refine ⟨(congrArg (State.setP · (t.setFlag f b).p) h.1 :), (key s.p).trans ?_⟩
  rw [h.2]
  exact (key t.p).symm

theorem setZN (v : Byte) : AgreeExceptIDB (s.setZN v) (t.setZN v) := (h.setFlag _ _).setFlag _ _

theorem loadStatus (v : Byte) : AgreeExceptIDB (s.loadStatus v) (t.loadStatus v) :=
  ⟨(congrArg (State.loadStatus · v) h.1 :), rfl⟩

theorem push8 (v : Byte) : AgreeExceptIDB (push8 v s) (push8 v t) :=
  ⟨congrArg (Machine.push8 v) h.1, h.2⟩

theorem pull8 : AgreeExceptIDB (pull8 s).2 (pull8 t).2 := ⟨congrArg (fun u => (Machine.pull8 u).2) h.1, h.2⟩

theorem pushWord (w : Word) : AgreeExceptIDB (pushWord w s) (pushWord w t) := (h.push8 _).push8 _

theorem pullWord : AgreeExceptIDB (pullWord s).2 (pullWord t).2 := h.pull8.pull8

theorem pull8_eq : (Machine.pull8 t).1 = (Machine.pull8 s).1 := by
  rw [pull8_byte, pull8_byte, h.sp_eq, h.memRead_eq]

theorem pullWord_eq : (Machine.pullWord t).1 = (Machine.pullWord s).1 := by
  simp only [pullWord_word, h.sp_eq, h.memRead_eq]

theorem compare (r v : Byte) : AgreeExceptIDB (s.compare r v) (t.compare r v) := (h.setFlag _ _).setZN _

theorem bitTest (m : Byte) : AgreeExceptIDB (s.bitTest m) (t.bitTest m) := by
  rw [State.bitTest, State.bitTest, h.a_eq]
  exact ((h.setFlag _ _).setFlag _ _).setFlag _ _

theorem writeTarget (m : Target) (v : Byte) : AgreeExceptIDB (s.writeTarget m v) (t.writeTarget m v) := by
  cases m with
  | accumulator => exact h.setA v
  | memory m =>
    rw [State.writeTarget, State.writeTarget, h.effectiveAddress_eq]
    exact h.memWrite _ v

theorem shiftTo (m : Target) (b : Bool) (r : Byte) : AgreeExceptIDB (shiftTo m b r s) (shiftTo m b r t) :=
  ((h.writeTarget m r).setFlag _ _).setZN _

theorem storeByte (m : MemOperand) (v : Byte) : AgreeExceptIDB (storeByte m v s) (storeByte m v t) :=
  h.writeTarget (.memory m) v

theorem updateCell (m : MemOperand) (f : Byte → Byte) : AgreeExceptIDB (updateCell m f s) (updateCell m f t) := by
  simp only [Machine.updateCell, h.effectiveAddress_eq, h.memRead_eq]
  exact (h.memWrite _ _).setZN _

theorem branchIf (c : Bool) (offset : Byte) : AgreeExceptIDB (branchIf c offset s) (branchIf c offset t) := by
  cases c with
  | true =>
    have htaken := h.setPc (t.pc + signExtend offset)
    rw [h.pc_eq] at htaken
    simpa only [Machine.branchIf, if_true, h.pc_eq] using htaken
  | false => exact h

theorem fetched : AgreeExceptIDB (fetched s) (fetched t) := by
  obtain ⟨ht, hp⟩ := h
  rw [ht]
  exact ⟨rfl, hp⟩

theorem fetchedEffect_eq : fetchedEffect t = fetchedEffect s := by
  obtain ⟨ht, _⟩ := h
  rw [ht]
  rfl

end AgreeExceptIDB

/-- An effect that does not look at I, D and B keeps two states equal but for them. -/
theorem AgreeExceptIDB.runEffect {s t : State} (h : AgreeExceptIDB s t) {e : Effect} (he : ignoresIDB e = true) :
    AgreeExceptIDB (runEffect e s) (runEffect e t) := by
  cases e with
  | loadA o => simpa only [Machine.runEffect, loadA, h.operand_eq] using (h.setA _).setZN _
  | loadX o => simpa only [Machine.runEffect, loadX, h.operand_eq] using (h.setX _).setZN _
  | loadY o => simpa only [Machine.runEffect, loadY, h.operand_eq] using (h.setY _).setZN _
  | storeA m => simpa only [Machine.runEffect, h.a_eq] using h.storeByte m s.a
  | storeX m => simpa only [Machine.runEffect, h.x_eq] using h.storeByte m s.x
  | storeY m => simpa only [Machine.runEffect, h.y_eq] using h.storeByte m s.y
  | adc o =>
    simpa only [Machine.runEffect, addWithCarry, h.operand_eq, h.a_eq, h.carryIn_eq] using
      (((h.setFlag _ _).setFlag _ _).setA _).setZN _
  | sbc o =>
    simpa only [Machine.runEffect, subtractWithCarry, h.operand_eq, h.a_eq, h.carryIn_eq] using
      (((h.setFlag _ _).setFlag _ _).setA _).setZN _
  | and o => simpa only [Machine.runEffect, andWithA, setLogic, h.operand_eq, h.a_eq] using (h.setA _).setZN _
  | ora o => simpa only [Machine.runEffect, orWithA, setLogic, h.operand_eq, h.a_eq] using (h.setA _).setZN _
  | eor o => simpa only [Machine.runEffect, xorWithA, setLogic, h.operand_eq, h.a_eq] using (h.setA _).setZN _
  | cmp o => simpa only [Machine.runEffect, compareA, h.operand_eq, h.a_eq] using h.compare _ _
  | cpx o => simpa only [Machine.runEffect, compareX, h.operand_eq, h.x_eq] using h.compare _ _
  | cpy o => simpa only [Machine.runEffect, compareY, h.operand_eq, h.y_eq] using h.compare _ _
  | bit m => simpa only [Machine.runEffect, testBits, h.effectiveAddress_eq, h.memRead_eq] using h.bitTest _
  | asl m => simpa only [Machine.runEffect, shiftLeft, h.readTarget_eq] using h.shiftTo m _ _
  | lsr m => simpa only [Machine.runEffect, shiftRight, h.readTarget_eq] using h.shiftTo m _ _
  | rol m => simpa only [Machine.runEffect, rotateLeft, h.readTarget_eq, h.carryAtBit0_eq] using h.shiftTo m _ _
  | ror m => simpa only [Machine.runEffect, rotateRight, h.readTarget_eq, h.carryAtBit7_eq] using h.shiftTo m _ _
  | inc m => exact h.updateCell m (· + 1#8)
  | dec m => exact h.updateCell m (· - 1#8)
  | inx | dex => simpa only [Machine.runEffect, countX, h.x_eq] using (h.setX _).setZN _
  | iny | dey => simpa only [Machine.runEffect, countY, h.y_eq] using (h.setY _).setZN _
  | branch f wanted offset =>
    have hf : t.flag f = s.flag f := h.flag_eq (of_decide_eq_true he)
    simpa only [Machine.runEffect, hf] using h.branchIf _ offset
  | jump target => exact h.setPc target
  | jumpIndirect ptr => simpa only [Machine.runEffect, h.indirectTarget_eq] using h.setPc _
  | jsr target => simpa only [Machine.runEffect, h.pc_eq] using (h.pushWord _).setPc target
  | rts => simpa only [Machine.runEffect, h.pullWord_eq] using h.pullWord.setPc _
  | rti =>
    have hloaded := h.pull8.loadStatus (Machine.pull8 s).1
    simpa only [Machine.runEffect, h.pull8_eq, hloaded.pullWord_eq] using hloaded.pullWord.setPc _
  | pha => simpa only [Machine.runEffect, h.a_eq] using h.push8 s.a
  | php => cases he
  | pla => simpa only [Machine.runEffect, h.pull8_eq] using (h.pull8.setA _).setZN _
  | plp => simpa only [Machine.runEffect, h.pull8_eq] using h.pull8.loadStatus _
  | tax => simpa only [Machine.runEffect, h.a_eq] using (h.setX s.a).setZN s.a
  | txa => simpa only [Machine.runEffect, h.x_eq] using (h.setA s.x).setZN s.x
  | tay => simpa only [Machine.runEffect, h.a_eq] using (h.setY s.a).setZN s.a
  | tya => simpa only [Machine.runEffect, h.y_eq] using (h.setA s.y).setZN s.y
  | tsx => simpa only [Machine.runEffect, h.sp_eq] using (h.setX s.sp).setZN s.sp
  | txs => simpa only [Machine.runEffect, h.x_eq] using h.setSp s.x
  | setFlag f b => exact h.setFlag f b
  | nop => exact h
  | brk => exact h.halt

end Sys2Proof.Claims

namespace Sys2Proof.Proofs

open Sys2Proof.Machine Sys2Proof.Claims

/-- Settles O13: both states fetch the same instruction, and no effect but PHP's looks at I, D or B. -/
theorem storedFlagsInfluenceNothing : Obligations.StoredFlagsInfluenceNothing := by
  intro s t s' hst hop hstep
  obtain ⟨hs, rfl⟩ | ⟨hs, rfl⟩ := step_cases hstep
  · exact ⟨t, step_of_halted (hst.halted_eq.trans hs), hst⟩
  · refine ⟨_, step_of_running (hst.halted_eq.trans hs), ?_⟩
    rw [hst.fetchedEffect_eq]
    exact hst.fetched.runEffect (fetchedEffect_ignoresIDB hop)

end Sys2Proof.Proofs
end

section
/-! PROOFS. The form of memory is canonical in fact: memories that read alike are equal lists (log entry 25). -/

namespace Sys2Proof.Machine

theorem Memory.canonicalFrom_cons {lo k : Nat} {v : Byte} {rest : Memory} :
    Memory.canonicalFrom lo ((k, v) :: rest) = true ↔
      lo ≤ k ∧ k < 65536 ∧ v ≠ unlistedByte ∧ Memory.canonicalFrom (k + 1) rest = true := by
  simp [Memory.canonicalFrom, and_assoc]

theorem Memory.read_cons (k : Nat) (v : Byte) (rest : Memory) (a : Nat) :
    Memory.read ((k, v) :: rest) a = if k = a then v else Memory.read rest a := rfl

/-- No address below a canonical list's lowest is listed. -/
theorem Memory.read_of_lt {lo a : Nat} {m : Memory} (hm : Memory.canonicalFrom lo m = true) (ha : a < lo) :
    m.read a = unlistedByte := by
  induction m generalizing lo with
  | nil => rfl
  | cons c rest ih =>
    obtain ⟨k, v⟩ := c
    obtain ⟨hlo, _, _, hrest⟩ := Memory.canonicalFrom_cons.mp hm
    rw [Memory.read_cons, if_neg (by omega)]
    exact ih hrest (by omega)

/-- The first address of a canonical list lists another byte than an unlisted one reads as. -/
theorem Memory.read_head {lo k : Nat} {v : Byte} {rest : Memory}
    (hm : Memory.canonicalFrom lo ((k, v) :: rest) = true) : Memory.read ((k, v) :: rest) k ≠ unlistedByte := by
  obtain ⟨_, _, hv, _⟩ := Memory.canonicalFrom_cons.mp hm
  rwa [Memory.read_cons, if_pos rfl]

/-- Memories that read alike have the same first address: the later of two would be read as unlisted. -/
theorem Memory.head_le_head {lo lo' k k' : Nat} {v v' : Byte} {rest rest' : Memory}
    (hm : Memory.canonicalFrom lo ((k, v) :: rest) = true) (hm' : Memory.canonicalFrom lo' ((k', v') :: rest') = true)
    (hread : Memory.read ((k, v) :: rest) k = Memory.read ((k', v') :: rest') k) : k' ≤ k := by
  obtain ⟨_, hk', hv', hrest'⟩ := Memory.canonicalFrom_cons.mp hm'
  have hfrom : Memory.canonicalFrom k' ((k', v') :: rest') = true :=
    Memory.canonicalFrom_cons.mpr ⟨le_refl k', hk', hv', hrest'⟩
  by_contra hlt
  exact Memory.read_head hm (hread.trans (Memory.read_of_lt hfrom (by omega)))

/-- What is read behind the first address is read in the rest; at it and below, the rest reads as unlisted. -/
theorem Memory.read_rest {k : Nat} {v : Byte} {rest : Memory} (hrest : Memory.canonicalFrom (k + 1) rest = true)
    (a : Nat) : Memory.read rest a = if a ≤ k then unlistedByte else Memory.read ((k, v) :: rest) a := by
  split
  · exact Memory.read_of_lt hrest (by omega)
  · rw [Memory.read_cons, if_neg (by omega)]

theorem Memory.eq_of_read_eq {lo lo' : Nat} {m m' : Memory} (hm : Memory.canonicalFrom lo m = true)
    (hm' : Memory.canonicalFrom lo' m' = true) (hread : ∀ a, a < 65536 → m.read a = m'.read a) : m = m' := by
  induction m generalizing m' lo lo' with
  | nil =>
    cases m' with
    | nil => rfl
    | cons c' rest' =>
      have hk' := (Memory.canonicalFrom_cons.mp hm').2.1
      exact absurd (hread c'.1 hk').symm (Memory.read_head hm')
  | cons c rest ih =>
    obtain ⟨k, v⟩ := c
    obtain ⟨_, hk, _, hrest⟩ := Memory.canonicalFrom_cons.mp hm
    cases m' with
    | nil => exact absurd (hread k hk) (Memory.read_head hm)
    | cons c' rest' =>
      obtain ⟨k', v'⟩ := c'
      obtain ⟨_, hk', _, hrest'⟩ := Memory.canonicalFrom_cons.mp hm'
      obtain rfl : k = k' :=
        Nat.le_antisymm (Memory.head_le_head hm' hm (hread k' hk').symm) (Memory.head_le_head hm hm' (hread k hk))
      have hv : v = v' := by simpa only [Memory.read_cons, if_true] using hread k hk
      have htail : rest = rest' := ih hrest hrest' fun a ha => by
        rw [Memory.read_rest (v := v) hrest, Memory.read_rest (v := v') hrest', hread a ha]
      rw [hv, htail]

end Sys2Proof.Machine

namespace Sys2Proof.Proofs

open Sys2Proof.Machine Sys2Proof.Claims

/-- Settles O15, by induction on both lists, whose first addresses agree. -/
theorem canonicalMemoriesThatReadAlikeAreEqual : Obligations.CanonicalMemoriesThatReadAlikeAreEqual :=
  fun _ _ hm hm' hread => Memory.eq_of_read_eq hm hm' hread

end Sys2Proof.Proofs
end

section
/-! PROOFS. The reset values, the stack and the status byte (10_state.md R25, R27, R33 to R35, R40). -/

namespace Sys2Proof.Claims

open Sys2Proof.Machine

/-- A stack cell as the spec numbers it (10_state.md R35). -/
theorem stackAddress_eq_ofNat (sp : Byte) : stackAddress sp = BitVec.ofNat 16 (0x0100 + sp.toNat) := by
  rw [← stackAddress_toNat, BitVec.ofNat_toNat, BitVec.setWidth_eq]

theorem cell_stack (s : State) (sp : Byte) : cell s (0x0100 + sp.toNat) = (s.memRead (stackAddress sp)).toNat := by
  rw [cell, stackAddress_eq_ofNat]

theorem create_flag (sp : Byte) (pc : Word) (c : Params) (f : Flag) : (State.create sp pc c).flag f = false := by
  rw [State.flag, State.create_p]
  cases f <;> decide

/-- Z and N after SetZN, as numbers (10_state.md R27). -/
theorem znOf_setZN (s : State) (v : Byte) : ZnOf (s.setZN v) v := by
  refine ⟨?_, ?_⟩
  · rw [State.setZN_zero, Bool.eq_iff_iff, beq_iff_eq, decide_eq_true_iff, BitVec.toNat_eq]
    rfl
  · rw [State.setZN_negative, BitVec.msb_eq_decide]

end Sys2Proof.Claims

namespace Sys2Proof.Proofs

open Sys2Proof.Machine Sys2Proof.Claims

/-- Settles O1: the created state is written out by R40, and its memory is empty. -/
theorem createdStateHoldsTheResetValues : Obligations.CreatedStateHoldsTheResetValues := by
  refine ⟨fun sp pc c => ?_, rfl⟩
  exact ⟨rfl, rfl, rfl, rfl, rfl, rfl, create_flag sp pc c, rfl, rfl, rfl, fun _ => rfl⟩

/-- Settles O16, from the read after a push and the place of a stack cell. -/
theorem pushAndPullWorkOnPageOne : Obligations.PushAndPullWorkOnPageOne := by
  intro s v
  have hraised : (s.sp + 1#8).toNat = (s.sp.toNat + 1) % 256 := BitVec.toNat_add ..
  refine ⟨⟨?_, ?_, fun addr haddr => ?_, rfl⟩, ⟨hraised, ?_, rfl⟩⟩
  · rw [cell_stack, memRead_push8, if_pos rfl]
  · rw [push8_sp, BitVec.toNat_sub]
    exact congrArg (· % 256) (Nat.add_comm ..)
  · rw [memRead_push8, if_neg fun h : stackAddress s.sp = addr => haddr (h ▸ stackAddress_toNat s.sp)]
  · rw [pull8_byte, ← hraised, cell_stack]

/-- Settles O21, from the 128 status bytes whose bit 5 is 1. -/
theorem statusByteIsTheSumOfItsFlags : Obligations.StatusByteIsTheSumOfItsFlags := by
  have key : ∀ p : Byte, p[5] = true →
      let weight (f : Flag) : Nat := ((p &&& f.mask) != 0x00#8).toNat
      p.toNat = weight .negative * 128 + weight .overflow * 64 + 32 + weight .brk * 16 + weight .decimal * 8 +
        weight .interruptDisable * 4 + weight .zero * 2 + weight .carry := by
    decide
  exact fun s => key s.p

/-- Settles O22, from what SetZN does to each flag. -/
theorem setZnWritesZeroAndNegativeOnly : Obligations.SetZnWritesZeroAndNegativeOnly := fun s v =>
  ⟨znOf_setZN s v, fun _ hz hn => State.setZN_other s v hz hn, State.setZN_unusedBit s v, rfl⟩

end Sys2Proof.Proofs
end

section
/-! PROOFS. Memory: what an effect writes (20_memory.md R58, R60), and the bytes at PC as the decoder reads them
(20_memory.md R70). -/

namespace Sys2Proof

theorem decode_of_omitted {c : Params} {op : Byte} (h : c.omits op = true) (rest : List Byte) :
    decode c (op :: rest) = .error (.notInOpset op) := by
  rw [decode, decodeOpcode, if_pos h]

/-- With two bytes after the opcode byte, what a kept byte's matrix cell makes of them (30_encoding.md R81, R87). -/
theorem decode_of_kept {c : Params} {op : Byte} (h : c.omits op = false) (b1 b2 : Byte) (rest : List Byte) :
    decode c (op :: b1 :: b2 :: rest) =
      .ok ((shapeOf op).instr b1 b2, (op :: b1 :: b2 :: rest).drop (shapeOf op).length) := by
  rw [decode, decodeOpcode, if_neg (by simp [h])]
  cases shapeOf op <;> rfl

/-- The matrix of R91 and the table of R90 agree on the length of an instruction (30_encoding.md R81). -/
theorem length_instr_shapeOf (op b1 b2 : Byte) : ((shapeOf op).instr b1 b2).length = (shapeOf op).length := by
  refine Machine.byte_cases (motive := fun op => ((shapeOf op).instr b1 b2).length = (shapeOf op).length) ?_ op
  intro n
  fin_cases n <;> rfl

namespace Machine

open Claims

/-- A write leaves every other cell alone (20_memory.md R60). -/
theorem State.memRead_memWrite_of_ne {addr other : Word} (h : other ≠ addr) (s : State) (v : Byte) :
    (s.memWrite addr v).memRead other = s.memRead other := by
  rw [State.memRead_memWrite, if_neg h.symm]

theorem State.memRead_memWrite_same (s : State) (addr : Word) (v : Byte) : (s.memWrite addr v).memRead addr = v := by
  rw [State.memRead_memWrite, if_pos rfl]

/-! The addresses an effect stores to. -/

/-- The addresses a shift or rotate stores to: that of its cell in memory, none for A (44_shift_rotate.md R176). -/
def Target.storedAddresses (t : Target) (s : State) : List Word :=
  match t with
  | .accumulator => []
  | .memory m => [s.effectiveAddress m]

/-- The addresses an effect stores to (20_memory.md R58). -/
def Effect.storedAddresses (e : Effect) (s : State) : List Word :=
  match e with
  | .storeA m | .storeX m | .storeY m | .inc m | .dec m => [s.effectiveAddress m]
  | .asl t | .lsr t | .rol t | .ror t => t.storedAddresses s
  | .pha | .php => [stackAddress s.sp]
  | .jsr _ => [stackAddress s.sp, stackAddress (s.sp - 1#8)]
  | _ => []

/-- The list of the claims, which goes by instruction, is that of the effects. -/
theorem storedAddresses_eq_effect (i : Instr) (s : State) : storedAddresses i s = (effectOf i).storedAddresses s := by
  cases i <;> rfl

theorem shiftTo_memRead {t : Target} {s : State} {addr : Word} (h : addr ∉ t.storedAddresses s) (b : Bool)
    (r : Byte) : (shiftTo t b r s).memRead addr = s.memRead addr := by
  cases t with
  | accumulator => rfl
  | memory m => exact State.memRead_memWrite_of_ne (List.ne_of_not_mem_cons h) s r

/-- Every effect keeps the bytes it does not store to. -/
theorem runEffect_memRead {e : Effect} {s : State} {addr : Word} (h : addr ∉ e.storedAddresses s) :
    (runEffect e s).memRead addr = s.memRead addr := by
  cases e with
  | storeA | storeX | storeY | inc | dec | pha | php =>
    exact State.memRead_memWrite_of_ne (List.ne_of_not_mem_cons h) s _
  | asl | lsr | rol | ror => exact shiftTo_memRead h _ _
  | jsr target =>
    have hhigh : addr ≠ stackAddress s.sp := List.ne_of_not_mem_cons h
    have hlow : addr ≠ stackAddress (s.sp - 1#8) := List.ne_of_not_mem_cons (List.not_mem_of_not_mem_cons h)
    rw [runEffect, State.memRead_congr (State.setPc_mem _ _), memRead_pushWord, if_neg hlow.symm, if_neg hhigh.symm]
  | _ => exact State.memRead_congr (by simp [runEffect]) addr

/-! The bytes at PC and the Step. -/

theorem decode_bytesAtPc_of_omitted {s : State} (h : omittedAtPc s = true) :
    decode s.params (bytesAtPc s) = .error (.notInOpset (s.memRead s.pc)) :=
  decode_of_omitted h _

theorem decode_bytesAtPc_of_kept {s : State} (h : omittedAtPc s = false) :
    decode s.params (bytesAtPc s) = .ok (instrAtPc s, (bytesAtPc s).drop (fetchLength s)) := by
  have hpc : s.pc + 1#16 + 1#16 = s.pc + 2#16 := BitVec.add_assoc ..
  rw [instrAtPc, fetchLength, h, hpc]
  exact decode_of_kept h _ _ _

theorem fetchLength_of_kept {s : State} (h : omittedAtPc s = false) : fetchLength s = (instrAtPc s).length := by
  rw [fetchLength, h, instrAtPc, length_instr_shapeOf]
  rfl

/-- The Step of a running core executes the instruction that the bytes at PC decode to, all of it fetched
(60_exceptions.md R270; log entry 10). -/
theorem step_of_decode {s : State} {i : Instr} {rest : List Byte} (hrun : s.halted = false)
    (h : decode s.params (bytesAtPc s) = .ok (i, rest)) :
    step s = exec i { s with pc := s.pc + BitVec.ofNat 16 i.length, cycles := s.cycles + 1 } := by
  cases ho : omittedAtPc s with
  | true =>
    rw [decode_bytesAtPc_of_omitted ho] at h
    cases h
  | false =>
    rw [decode_bytesAtPc_of_kept ho] at h
    cases h
    rw [step_of_running hrun, fetchedEffect_of_kept ho, ← exec_eq_effect, fetched, fetchLength_of_kept ho]

/-- Bytes placed at PC are read back there: the three addresses differ, also where they wrap past 0xFFFF. -/
theorem bytesAtPc_placeAtPc (s : State) (b0 b1 b2 : Byte) : bytesAtPc (s.placeAtPc b0 b1 b2) = [b0, b1, b2] := by
  have h01 : s.pc ≠ s.pc + 1#16 := by bv_omega
  have h02 : s.pc ≠ s.pc + 2#16 := by bv_omega
  have h12 : s.pc + 1#16 ≠ s.pc + 2#16 := by bv_omega
  have hpc : (s.placeAtPc b0 b1 b2).pc = s.pc := rfl
  rw [bytesAtPc, hpc, State.placeAtPc, State.memRead_memWrite_same, State.memRead_memWrite_of_ne h02,
    State.memRead_memWrite_of_ne h01, State.memRead_memWrite_same, State.memRead_memWrite_of_ne h12,
    State.memRead_memWrite_same]

end Machine
end Sys2Proof

namespace Sys2Proof.Proofs

open Sys2Proof.Machine Sys2Proof.Claims

/-- Settles O14, from the read after a write. -/
theorem writeChangesExactlyOneCell : Obligations.WriteChangesExactlyOneCell := fun s addr _ v =>
  ⟨State.memRead_memWrite_same s addr v, fun h => State.memRead_memWrite_of_ne h s v, rfl⟩

/-- Settles O19: the bytes at PC are those stored there, and the Step executes what they decode to. -/
theorem nextStepRunsWhatWasStoredAtPc : Obligations.NextStepRunsWhatWasStoredAtPc := by
  intro s b0 b1 b2 i rest hrun h
  rw [← bytesAtPc_placeAtPc s b0 b1 b2] at h
  exact step_of_decode (s := s.placeAtPc b0 b1 b2) hrun h

/-- Settles O25: the effect of an instruction keeps the bytes it does not store to. -/
theorem memoryChangesOnlyWhereStored : Obligations.MemoryChangesOnlyWhereStored := by
  intro i s t h addr haddr
  obtain rfl := next_eq_effect h
  rw [storedAddresses_eq_effect] at haddr
  exact runEffect_memRead haddr

end Sys2Proof.Proofs
end

section
/-! PROOFS. The encoding (30_encoding.md R80 to R93). The matrix of R91, which the decoder reads, and the table of R90,
which the encoder reads, agree: every instruction is made by a cell of the matrix, and what a byte's cell makes is
encoded as that byte and the operand bytes of the cell's format. -/

namespace Sys2Proof

open Machine

/-- The instructions a matrix cell makes (30_encoding.md R81). -/
inductive Shape.Makes : Shape → Instr → Prop
  | f1 (i : Instr) : Makes (.f1 i) i
  | f2 (make : Byte → Instr) (b : Byte) : Makes (.f2 make) (make b)
  | f3 (make : Word → Instr) (w : Word) : Makes (.f3 make) (make w)

theorem Shape.Makes.exists_eq_instr {sh : Shape} {i : Instr} (h : sh.Makes i) : ∃ b1 b2, i = sh.instr b1 b2 := by
  cases h with
  | f1 => exact ⟨0#8, 0#8, rfl⟩
  | f2 make b => exact ⟨b, 0#8, rfl⟩
  | f3 make w => exact ⟨lowByte w, highByte w, by rw [Shape.instr, wordOf_highByte_lowByte]⟩

/-- The cell of an instruction's own opcode byte makes it. -/
theorem shapeOf_opcode_makes (i : Instr) : (shapeOf i.opcode).Makes i := by
  cases i <;> simp only [Instr.opcode, encode, encodeWord, List.headD_cons] <;> constructor

theorem exists_eq_instr_shapeOf (i : Instr) : ∃ op b1 b2, i = (shapeOf op).instr b1 b2 :=
  ⟨i.opcode, (shapeOf_opcode_makes i).exists_eq_instr⟩

/-- The encoding of what a matrix cell makes of the two bytes after its opcode byte (30_encoding.md R81). -/
def Shape.bytes (sh : Shape) (op b1 b2 : Byte) : List Byte :=
  match sh with
  | .f1 _ => [op]
  | .f2 _ => [op, b1]
  | .f3 _ => encodeWord op (wordOf b2 b1)

theorem encode_instr_shapeOf (op b1 b2 : Byte) : encode ((shapeOf op).instr b1 b2) = (shapeOf op).bytes op b1 b2 := by
  refine byte_cases (motive := fun op => encode ((shapeOf op).instr b1 b2) = (shapeOf op).bytes op b1 b2) ?_ op
  intro n
  fin_cases n <;> rfl

theorem Shape.bytes_eq_take (sh : Shape) (op b1 b2 : Byte) : sh.bytes op b1 b2 = [op, b1, b2].take sh.length := by
  cases sh with
  | f1 | f2 => rfl
  | f3 => rw [Shape.bytes, encodeWord, lowByte_wordOf, highByte_wordOf]; rfl

theorem Shape.bytes_append_drop (sh : Shape) (op b1 b2 : Byte) (rest : List Byte) :
    sh.bytes op b1 b2 ++ (op :: b1 :: b2 :: rest).drop sh.length = op :: b1 :: b2 :: rest := by
  rw [Shape.bytes_eq_take]
  cases sh <;> rfl

/-- A kept cell's bytes decode to what the cell makes of them, also when no byte follows (30_encoding.md R81, R87). -/
theorem decode_bytes_shapeOf {c : Params} {op : Byte} (h : c.omits op = false) (b1 b2 : Byte) (rest : List Byte) :
    decode c ((shapeOf op).bytes op b1 b2 ++ rest) = .ok ((shapeOf op).instr b1 b2, rest) := by
  rw [Shape.bytes_eq_take]
  cases hsh : shapeOf op <;> simp [Shape.length, Shape.instr, decode, decodeOpcode, h, hsh]

theorem wellFormed_instr_shapeOf (c : Params) (op b1 b2 : Byte) :
    ((shapeOf op).instr b1 b2).wellFormed c = !c.omits op := by
  rw [Instr.wellFormed, opcode_instr_shapeOf]

theorem decode_encode {c : Params} {i : Instr} (h : i.wellFormed c = true) (rest : List Byte) :
    decode c (encode i ++ rest) = .ok (i, rest) := by
  obtain ⟨op, b1, b2, rfl⟩ := exists_eq_instr_shapeOf i
  rw [wellFormed_instr_shapeOf, Bool.not_eq_true'] at h
  rw [encode_instr_shapeOf]
  exact decode_bytes_shapeOf h b1 b2 rest

/-- The opcode byte alone fixes the mnemonic and the mode: the operand bytes may as well be 0. -/
theorem mnemonic_mode_instr_shapeOf (op b1 b2 : Byte) :
    ((shapeOf op).instr b1 b2).mnemonic = ((shapeOf op).instr 0#8 0#8).mnemonic ∧
      ((shapeOf op).instr b1 b2).mode = ((shapeOf op).instr 0#8 0#8).mode := by
  refine byte_cases (motive := fun op =>
    ((shapeOf op).instr b1 b2).mnemonic = ((shapeOf op).instr 0#8 0#8).mnemonic ∧
      ((shapeOf op).instr b1 b2).mode = ((shapeOf op).instr 0#8 0#8).mode) ?_ op
  intro n
  fin_cases n <;> exact ⟨rfl, rfl⟩

theorem mnemonic_mode_of_opcode_eq {i j : Instr} (h : i.opcode = j.opcode) :
    i.mnemonic = j.mnemonic ∧ i.mode = j.mode := by
  obtain ⟨op, b1, b2, rfl⟩ := exists_eq_instr_shapeOf i
  obtain ⟨op', b1', b2', rfl⟩ := exists_eq_instr_shapeOf j
  rw [opcode_instr_shapeOf, opcode_instr_shapeOf] at h
  subst h
  obtain ⟨hmn, hmode⟩ := mnemonic_mode_instr_shapeOf op b1 b2
  obtain ⟨hmn', hmode'⟩ := mnemonic_mode_instr_shapeOf op b1' b2'
  exact ⟨hmn.trans hmn'.symm, hmode.trans hmode'.symm⟩

theorem length_eq_operandSize (i : Instr) : i.length = 1 + i.mode.operandSize := by cases i <;> rfl

end Sys2Proof

namespace Sys2Proof.Proofs

open Sys2Proof.Machine Sys2Proof.Claims

/-- Settles O49: the instruction is what a cell makes of its operand bytes, and the cell's bytes decode to it. -/
theorem decodeOfEncodeIsTheInstruction : Obligations.DecodeOfEncodeIsTheInstruction :=
  fun _ _ rest h => decode_encode h rest

/-- Settles O50, by whether the opcode byte is in `OPSET`. -/
theorem everyByteStringHasOneMeaning : Obligations.EveryByteStringHasOneMeaning := by
  intro c op b1 b2 rest
  cases h : c.omits op with
  | true => exact .inl ⟨rfl, decode_of_omitted h _⟩
  | false =>
    refine .inr ⟨rfl, _, _, decode_of_kept h b1 b2 rest, ?_, ?_⟩
    · rw [wellFormed_instr_shapeOf, h]; rfl
    · rw [encode_instr_shapeOf, Shape.bytes_append_drop]

/-- Settles O51: the opcode byte fixes the mode, and the mode the length. -/
theorem lengthFollowsFromTheOpcodeByte : Obligations.LengthFollowsFromTheOpcodeByte := by
  intro i j h
  obtain ⟨hmn, hmode⟩ := mnemonic_mode_of_opcode_eq h
  refine ⟨?_, hmode, hmn, length_eq_operandSize i⟩
  rw [length_eq_operandSize, length_eq_operandSize, hmode]

end Sys2Proof.Proofs
end

section
/-! PROOFS. The assembler's table and encoder (30_encoding.md R88, R90, R109): each row is the cell of its opcode byte,
and an encoded record is one instruction with the record's operand. -/

namespace Sys2Proof.Machine

open Claims

theorem encodingTable_opcodes_nodup : (encodingTable.map fun row => row.2.2).Nodup := by decide +kernel

theorem encodingTable_defined : ∀ row ∈ encodingTable, row.2.2 ∉ undefinedBytes := by
  simp only [encodingTable, List.forall_mem_flatten]
  decide

theorem opcodeFor_of_row : ∀ row ∈ encodingTable, opcodeFor row.1 row.2.1 = some row.2.2 := by
  simp only [encodingTable, List.forall_mem_flatten]
  decide

theorem row_of_opcodeFor {m : Mnemonic} {mode : Mode} {op : Byte} (h : opcodeFor m mode = some op) :
    (m, mode, op) ∈ encodingTable := by
  obtain ⟨row, hfind, rfl⟩ := Option.map_eq_some_iff.mp h
  have hkey := List.find?_some hfind
  simp only [Bool.and_eq_true, beq_iff_eq] at hkey
  obtain ⟨rfl, rfl⟩ := hkey
  exact List.mem_of_find?_eq_some hfind

/-- Every row of the table of R90 is the cell of the matrix of R91 at its opcode byte. -/
theorem shapeOf_row : ∀ row ∈ encodingTable,
    ((shapeOf row.2.2).instr 0#8 0#8).mnemonic = some row.1 ∧ ((shapeOf row.2.2).instr 0#8 0#8).mode = row.2.1 := by
  simp only [encodingTable, List.forall_mem_flatten]
  decide

theorem instr_of_row {row : Mnemonic × Mode × Byte} (h : row ∈ encodingTable) (b1 b2 : Byte) :
    ((shapeOf row.2.2).instr b1 b2).mnemonic = some row.1 ∧ ((shapeOf row.2.2).instr b1 b2).mode = row.2.1 := by
  obtain ⟨hmn, hmode⟩ := mnemonic_mode_instr_shapeOf row.2.2 b1 b2
  rw [hmn, hmode]
  exact shapeOf_row row h

/-! The operand bytes of a record. -/

theorem lowByte_ofNat (v : Nat) : lowByte (BitVec.ofNat 16 v) = BitVec.ofNat 8 v := by
  apply BitVec.eq_of_toNat_eq
  rw [lowByte_toNat, BitVec.toNat_ofNat, BitVec.toNat_ofNat]
  omega

theorem highByte_ofNat (v : Nat) : highByte (BitVec.ofNat 16 v) = BitVec.ofNat 8 (v / 256) := by
  apply BitVec.eq_of_toNat_eq
  rw [highByte_toNat, BitVec.toNat_ofNat, BitVec.toNat_ofNat]
  omega

theorem littleEndian_operandSize (mode : Mode) (v : Nat) :
    littleEndian mode.operandSize v = [BitVec.ofNat 8 v, BitVec.ofNat 8 (v / 256)].take mode.operandSize := by
  cases mode <;> simp [littleEndian, Mode.operandSize, List.range_succ]

theorem operandBytes_eq_littleEndian (mode : Mode) (v : Nat) :
    operandBytes mode v = littleEndian mode.operandSize v := by
  rw [littleEndian_operandSize]
  cases mode <;> simp [operandBytes, Mode.operandSize, lowByte_ofNat, highByte_ofNat]

/-- The instruction of an opcode byte with the operand `v`, cut to the width of the byte's format. -/
def instrWithOperand (op : Byte) (v : Nat) : Instr :=
  (shapeOf op).instr (BitVec.ofNat 8 v) (BitVec.ofNat 8 (v / 256))

theorem instrWithOperand_of_opcodeFor {m : Mnemonic} {mode : Mode} {op : Byte} (h : opcodeFor m mode = some op)
    (v : Nat) : (instrWithOperand op v).mnemonic = some m ∧ (instrWithOperand op v).mode = mode :=
  instr_of_row (row_of_opcodeFor h) _ _

theorem encode_instrWithOperand (op : Byte) (v : Nat) :
    encode (instrWithOperand op v) = op :: littleEndian (instrWithOperand op v).mode.operandSize v := by
  have hlen : (shapeOf op).length = (instrWithOperand op v).mode.operandSize + 1 := by
    rw [Nat.add_comm, ← length_eq_operandSize, instrWithOperand, length_instr_shapeOf]
  rw [littleEndian_operandSize, ← List.take_succ_cons, ← hlen, instrWithOperand, encode_instr_shapeOf,
    Shape.bytes_eq_take]

/-! The encoder on one record. -/

theorem encodeRecord_of_unknown {r : AsmInstr} (h : mnemonicOf r.mnemonic = none) : encodeRecord r = [] := by
  rw [encodeRecord, h]

theorem encodeRecord_of_noOpcode {r : AsmInstr} {m : Mnemonic} (hm : mnemonicOf r.mnemonic = some m)
    (hop : opcodeFor m (encoderMode m r.mode) = none) : encodeRecord r = [] := by
  simp only [encodeRecord, hm, hop]

theorem encodeRecord_of_opcode {r : AsmInstr} {m : Mnemonic} {op : Byte} (hm : mnemonicOf r.mnemonic = some m)
    (hop : opcodeFor m (encoderMode m r.mode) = some op) :
    encodeRecord r = op :: operandBytes (encoderMode m r.mode) r.operand := by
  simp only [encodeRecord, hm, hop]

theorem encodeRecord_eq_nil_iff (r : AsmInstr) :
    encodeRecord r = [] ↔ ∀ m, mnemonicOf r.mnemonic = some m → opcodeFor m (encoderMode m r.mode) = none := by
  cases hm : mnemonicOf r.mnemonic with
  | none => simp [encodeRecord_of_unknown hm]
  | some m =>
    cases hop : opcodeFor m (encoderMode m r.mode) with
    | none => simp [encodeRecord_of_noOpcode hm hop, hop]
    | some op => simp [encodeRecord_of_opcode hm hop, hop]

/-- A record with an encoding becomes the instruction of its table row with the record's operand. -/
theorem encodeRecord_eq_encode {r : AsmInstr} {m : Mnemonic} {op : Byte} (hm : mnemonicOf r.mnemonic = some m)
    (hop : opcodeFor m (encoderMode m r.mode) = some op) :
    encodeRecord r = encode (instrWithOperand op r.operand) := by
  obtain ⟨-, hmode⟩ := instrWithOperand_of_opcodeFor hop r.operand
  rw [encodeRecord_of_opcode hm hop, encode_instrWithOperand, hmode, operandBytes_eq_littleEndian]

theorem mnemonicOf_name : ∀ row ∈ mnemonicNames,
    mnemonicOf row.1 = some row.2 ∧ mnemonicOf (row.1.map Char.toLower) = some row.2 := by decide

end Sys2Proof.Machine

namespace Sys2Proof.Proofs

open Sys2Proof.Machine Sys2Proof.Claims

/-- Settles O52: the rows are cells of the matrix, and the default parameters leave no byte out. -/
theorem opcodeTableMatchesTheDecoder : Obligations.OpcodeTableMatchesTheDecoder :=
  ⟨rfl, encodingTable_opcodes_nodup, fun row hrow => ⟨encodingTable_defined row hrow, fun b1 b2 =>
    ⟨_, _, decode_of_kept rfl b1 b2 [], instr_of_row hrow b1 b2⟩⟩⟩

/-- Settles O54: an encoded record is the encoding of the instruction of its row, so it decodes to that. -/
theorem assembledBytesDecodeToTheRecord : Obligations.AssembledBytesDecodeToTheRecord := by
  refine ⟨fun r => ⟨encodeRecord_eq_nil_iff r, fun m op hm hop => ?_⟩, opcodeFor_of_row, rfl, mnemonicOf_name⟩
  obtain ⟨hmn, hmode⟩ := instrWithOperand_of_opcodeFor hop r.operand
  refine ⟨instrWithOperand op r.operand, ?_, opcode_instr_shapeOf _ _ _, hmn, hmode, ?_⟩
  · rw [encodeRecord_eq_encode hm hop, ← List.append_nil (encode _)]
    exact decode_encode rfl []
  · rw [encode_instrWithOperand, List.tail_cons]

/-- Settles O53: each word is evaluated. -/
theorem sampleWordsDecode : Obligations.SampleWordsDecode := ⟨rfl, rfl, rfl, rfl, rfl, rfl, rfl, rfl⟩

end Sys2Proof.Proofs
end

section
/-! PROOFS. The fetch (30_encoding.md R83, R84). -/

namespace Sys2Proof.Machine

open Claims

theorem ofNat_toNat_add (w : Word) (n : Nat) : BitVec.ofNat 16 (w.toNat + n) = w + BitVec.ofNat 16 n := by
  rw [BitVec.ofNat_add, BitVec.ofNat_toNat, BitVec.setWidth_eq]

theorem cell_toNat (s : State) (w : Word) : cell s w.toNat = (s.memRead w).toNat := by
  rw [cell, BitVec.ofNat_toNat, BitVec.setWidth_eq]

theorem cell_toNat_add (s : State) (w : Word) (n : Nat) :
    cell s (w.toNat + n) = (s.memRead (w + BitVec.ofNat 16 n)).toNat := by
  rw [cell, ofNat_toNat_add]

end Sys2Proof.Machine

namespace Sys2Proof.Proofs

open Sys2Proof.Machine Sys2Proof.Claims

/-- Settles O18: a fetch reads at PC and adds 1 to it, and a sum of words is a sum modulo 65536. -/
theorem fetchReadsAtPcAndAdvances : Obligations.FetchReadsAtPcAndAdvances := by
  intro s
  have hpc : s.pc + 1#16 + 1#16 = s.pc + 2#16 := BitVec.add_assoc ..
  refine ⟨?_, ?_, ?_, ?_⟩
  · rw [fetch8_byte, cell_toNat]
  · rw [ofNat_toNat_add]; rfl
  · rw [fetch16_word, wordOf_toNat, cell_toNat, cell_toNat_add]
  · rw [ofNat_toNat_add, ← hpc]; rfl

end Sys2Proof.Proofs
end

section
/-! PROOFS. The effective addresses and the operands (40_addressing.md R121, R122, R125 to R132). -/

namespace Sys2Proof.Machine

open Claims

theorem cell_toNat_byte (s : State) (b : Byte) : cell s b.toNat = (s.memRead (zeroExtend b)).toNat := by
  rw [← zeroExtend_toNat, cell_toNat]

/-- The sum of a zero-page address and an index wraps inside page zero (R126, R127). -/
theorem zeroExtend_add_toNat (b v : Byte) : (zeroExtend (b + v)).toNat = (b.toNat + v.toNat) % 256 := by
  rw [zeroExtend_toNat, BitVec.toNat_add]

/-- The sum of a 16-bit address and an index wraps modulo 65536 (R129, R130, R132; D9). -/
theorem add_zeroExtend_toNat (w : Word) (v : Byte) : (w + zeroExtend v).toNat = (w.toNat + v.toNat) % 65536 := by
  rw [BitVec.toNat_add, zeroExtend_toNat]

/-- A pointer in page zero is little-endian, and its high byte is read at the next address modulo 256 (D10, D20). -/
theorem State.zeroPagePointer_toNat (s : State) (p : Byte) :
    (s.zeroPagePointer p).toNat = cell s ((p.toNat + 1) % 256) * 256 + cell s p.toNat := by
  have hnext : (p.toNat + 1) % 256 = (p + 1#8).toNat := (BitVec.toNat_add p 1#8).symm
  rw [State.zeroPagePointer, wordOf_toNat, hnext, cell_toNat_byte, cell_toNat_byte]

/-- The pointer at an indexed zero-page address: the index is added before the pointer is read (R131). -/
theorem State.zeroPagePointer_add_toNat (s : State) (b v : Byte) :
    (s.zeroPagePointer (b + v)).toNat =
      cell s ((b.toNat + v.toNat + 1) % 256) * 256 + cell s ((b.toNat + v.toNat) % 256) := by
  rw [State.zeroPagePointer_toNat, BitVec.toNat_add, Nat.mod_add_mod]

end Sys2Proof.Machine

namespace Sys2Proof.Proofs

open Sys2Proof.Machine Sys2Proof.Claims

/-- Settles O20: each address is a byte, a word, a page-zero pointer or one of these plus an index. -/
theorem effectiveAddressesAndOperands : Obligations.EffectiveAddressesAndOperands := by
  intro s b w
  refine ⟨?zeroPage, ?zeroPageX, ?zeroPageY, rfl, ?absoluteX, ?absoluteY, ?indirectX, ?indirectY, rfl, rfl,
    fun _ => rfl⟩
  case zeroPage => exact zeroExtend_toNat b
  case zeroPageX => exact zeroExtend_add_toNat b s.x
  case zeroPageY => exact zeroExtend_add_toNat b s.y
  case absoluteX => exact add_zeroExtend_toNat w s.x
  case absoluteY => exact add_zeroExtend_toNat w s.y
  case indirectX => exact s.zeroPagePointer_add_toNat b s.x
  case indirectY =>
    rw [← s.zeroPagePointer_toNat]
    exact add_zeroExtend_toNat (s.zeroPagePointer b) s.y

end Sys2Proof.Proofs
end

section
/-! PROOFS. What each form of a load or store does (41_load_store.md R140 to R145). -/

namespace Sys2Proof.Machine

open Claims

/-- Every instruction completes, with whatever holds of its effect's state (60_exceptions.md R278). -/
theorem exists_next_of_effect {i : Instr} {e : Effect} {s : State} {Q : State → Prop} (he : effectOf i = e)
    (hQ : Q (runEffect e s)) : ∃ t, exec i s = .next t ∧ Q t :=
  ⟨runEffect e s, he ▸ exec_eq_effect i s, hQ⟩

/-! The effect of each form, with the operand the form is listed with. -/

theorem effectOf_ldaForms (b : Byte) (w : Word) : ∀ f ∈ ldaForms b w, effectOf f.1 = .loadA f.2 :=
  List.map_inj_left.1 rfl

theorem effectOf_ldxForms (b : Byte) (w : Word) : ∀ f ∈ ldxForms b w, effectOf f.1 = .loadX f.2 :=
  List.map_inj_left.1 rfl

theorem effectOf_ldyForms (b : Byte) (w : Word) : ∀ f ∈ ldyForms b w, effectOf f.1 = .loadY f.2 :=
  List.map_inj_left.1 rfl

theorem effectOf_staForms (b : Byte) (w : Word) : ∀ f ∈ staForms b w, effectOf f.1 = .storeA f.2 :=
  List.map_inj_left.1 rfl

theorem effectOf_stxForms (b : Byte) (w : Word) : ∀ f ∈ stxForms b w, effectOf f.1 = .storeX f.2 :=
  List.map_inj_left.1 rfl

theorem effectOf_styForms (b : Byte) (w : Word) : ∀ f ∈ styForms b w, effectOf f.1 = .storeY f.2 :=
  List.map_inj_left.1 rfl

/-! What the effects do. -/

theorem loadA_copies_operand (o : Operand) (s : State) : (loadA o s).a = s.operand o ∧ ZnOf (loadA o s) (loadA o s).a :=
  ⟨rfl, znOf_setZN (s.setA (s.operand o)) (s.operand o)⟩

theorem loadX_copies_operand (o : Operand) (s : State) : (loadX o s).x = s.operand o ∧ ZnOf (loadX o s) (loadX o s).x :=
  ⟨rfl, znOf_setZN (s.setX (s.operand o)) (s.operand o)⟩

theorem loadY_copies_operand (o : Operand) (s : State) : (loadY o s).y = s.operand o ∧ ZnOf (loadY o s) (loadY o s).y :=
  ⟨rfl, znOf_setZN (s.setY (s.operand o)) (s.operand o)⟩

/-- A store writes the cell at the address the state before it gives, and nothing else. -/
theorem storeByte_writes_one_cell (m : MemOperand) (v : Byte) (s : State) :
    (storeByte m v s).memRead (s.effectiveAddress m) = v ∧
    OtherCellsKept (s.effectiveAddress m) s (storeByte m v s) ∧
    storeByte m v s = { s with mem := (storeByte m v s).mem } :=
  ⟨s.memRead_memWrite_same _ v, fun _ hother => s.memRead_memWrite_of_ne hother v, rfl⟩

end Sys2Proof.Machine

namespace Sys2Proof.Proofs

open Sys2Proof.Machine Sys2Proof.Claims

/-- Settles O27: the effect of every form is the load of its operand. -/
theorem loadsCopyTheOperandAndSetZn : Obligations.LoadsCopyTheOperandAndSetZn := by
  refine fun s b w => ⟨fun f hf => ?lda, fun f hf => ?ldx, fun f hf => ?ldy⟩
  case lda => exact exists_next_of_effect (effectOf_ldaForms b w f hf) (loadA_copies_operand f.2 s)
  case ldx => exact exists_next_of_effect (effectOf_ldxForms b w f hf) (loadX_copies_operand f.2 s)
  case ldy => exact exists_next_of_effect (effectOf_ldyForms b w f hf) (loadY_copies_operand f.2 s)

/-- Settles O28: the effect of every form is one write of the register at its effective address. -/
theorem storesWriteTheRegisterAtTheEffectiveAddress :
    Obligations.StoresWriteTheRegisterAtTheEffectiveAddress := by
  refine fun s b w => ⟨fun f hf => ?sta, fun f hf => ?stx, fun f hf => ?sty⟩
  case sta => exact exists_next_of_effect (effectOf_staForms b w f hf) (storeByte_writes_one_cell f.2 s.a s)
  case stx => exact exists_next_of_effect (effectOf_stxForms b w f hf) (storeByte_writes_one_cell f.2 s.x s)
  case sty => exact exists_next_of_effect (effectOf_styForms b w f hf) (storeByte_writes_one_cell f.2 s.y s)

end Sys2Proof.Proofs
end

section
/-! PROOFS. ADC and SBC (42_arithmetic.md R150 to R152, R156). SBC is ADC of the operand's complement, so what R152 says
of SBC follows from what it says of ADC. -/

namespace Sys2Proof.Claims

open Sys2Proof.Machine

theorem OtherFlagsKept.mono {w w' : List Flag} {s t : State} (h : OtherFlagsKept w s t) (hw : w ⊆ w') :
    OtherFlagsKept w' s t := fun f hf => h f fun hmem => hf (hw hmem)

end Sys2Proof.Claims

namespace Sys2Proof.Machine

open Claims

/-! The effect of each form, with the operand the form is listed with. -/

theorem effectOf_adcForms (b : Byte) (w : Word) : ∀ f ∈ adcForms b w, effectOf f.1 = .adc f.2 :=
  List.map_inj_left.1 rfl

theorem effectOf_sbcForms (b : Byte) (w : Word) : ∀ f ∈ sbcForms b w, effectOf f.1 = .sbc f.2 :=
  List.map_inj_left.1 rfl

/-! The numbers behind a byte. -/

theorem State.carryIn_le_one (s : State) : s.carryIn ≤ 1 := Bool.toNat_le _

/-- The sign bit, masked out (R150, R151). -/
theorem signBit_ne_zero (x : Byte) : (x &&& 0x80#8 != 0x00#8) = x.msb := by
  revert x
  decide

/-- The signed value weighs the sign bit by -256 (47_branch.md R200). -/
theorem signed_eq_sub_msb (b : Byte) : signed b = (b.toNat : Int) - 256 * (b.msb.toNat : Int) := by
  have hmsb : b.msb = decide (128 ≤ b.toNat) := BitVec.msb_eq_decide b
  rw [signed, hmsb]
  by_cases h : 128 ≤ b.toNat
  · simp [h, Nat.not_lt.mpr h]
  · simp [h, Nat.not_le.mp h]

theorem complement_eq_not (o : Byte) : o ^^^ 0xFF#8 = ~~~o := BitVec.xor_allOnes

theorem complement_toNat (o : Byte) : ((o ^^^ 0xFF#8).toNat : Int) = 255 - o.toNat := by
  rw [complement_eq_not, BitVec.toNat_not]
  omega

theorem signed_complement (o : Byte) : signed (o ^^^ 0xFF#8) = -1 - signed o := by
  rw [signed_eq_sub_msb, signed_eq_sub_msb, complement_toNat, complement_eq_not, BitVec.msb_not]
  cases o.msb <;> simp <;> omega

/-! SBC as ADC of the complement, part by part (R156). -/

theorem sbcDifference_eq_adcSum (a o : Byte) (c : Nat) :
    sbcDifference a o c = (adcSum a (o ^^^ 0xFF#8) c : Int) - 256 := by
  have := complement_toNat o
  rw [sbcDifference, adcSum]
  omega

theorem ofInt_sbcDifference (a o : Byte) (c : Nat) :
    BitVec.ofInt 8 (sbcDifference a o c) = BitVec.ofNat 8 (adcSum a (o ^^^ 0xFF#8) c) := by
  rw [sbcDifference_eq_adcSum, Int.sub_eq_add_neg, BitVec.ofInt_add, BitVec.ofInt_natCast]
  exact BitVec.add_zero _

theorem sbcOverflow_eq_adcOverflow (a o t : Byte) : sbcOverflow a o t = adcOverflow a (o ^^^ 0xFF#8) t := by
  rw [sbcOverflow, adcOverflow, complement_eq_not, ← BitVec.not_xor_right, BitVec.not_not]

/-- SBC borrows nothing exactly when the sum with the complement carries. -/
theorem sbcDifference_nonneg_iff (a o : Byte) (c : Nat) :
    0 ≤ sbcDifference a o c ↔ 255 < adcSum a (o ^^^ 0xFF#8) c := by
  rw [sbcDifference_eq_adcSum]
  omega

theorem subtractWithCarry_eq_addWithCarry (o : Operand) (s : State) :
    subtractWithCarry o s = addWithCarry (.immediate (s.operand o ^^^ 0xFF#8)) s := by
  rw [subtractWithCarry, decide_eq_decide.mpr (sbcDifference_nonneg_iff ..), ofInt_sbcDifference,
    sbcOverflow_eq_adcOverflow]
  rfl

/-! What ADC and SBC leave in A and P (R150, R151). Both write V, then C, then A with Z and N. -/

theorem flag_carry_setZN_setA (s : State) (v c : Bool) (t : Byte) :
    ((((s.setFlag .overflow v).setFlag .carry c).setA t).setZN t).flag .carry = c := by
  rw [State.setZN_other _ _ (by decide) (by decide), State.flag_setA, State.flag_setFlag_same]

theorem flag_overflow_setZN_setA (s : State) (v c : Bool) (t : Byte) :
    ((((s.setFlag .overflow v).setFlag .carry c).setA t).setZN t).flag .overflow = v := by
  rw [State.setZN_other _ _ (by decide) (by decide), State.flag_setA, State.flag_setFlag_other _ _ (by decide),
    State.flag_setFlag_same]

theorem addWithCarry_a (o : Operand) (s : State) :
    (addWithCarry o s).a.toNat = adcSum s.a (s.operand o) s.carryIn % 256 := BitVec.toNat_ofNat ..

theorem addWithCarry_carry (o : Operand) (s : State) :
    (addWithCarry o s).flag .carry = decide (255 < adcSum s.a (s.operand o) s.carryIn) :=
  flag_carry_setZN_setA ..

theorem addWithCarry_overflow (o : Operand) (s : State) :
    (addWithCarry o s).flag .overflow = adcOverflow s.a (s.operand o) (addWithCarry o s).a :=
  flag_overflow_setZN_setA ..

theorem addWithCarry_znOf (o : Operand) (s : State) : ZnOf (addWithCarry o s) (addWithCarry o s).a :=
  znOf_setZN (State.setA _ _) _

theorem addWithCarry_otherFlagsKept (o : Operand) (s : State) :
    OtherFlagsKept [.carry, .overflow, .zero, .negative] s (addWithCarry o s) :=
  (runEffect_otherFlagsKept (.adc o) s).mono (w := [.carry, .zero, .overflow, .negative]) (by decide)

theorem subtractWithCarry_a (o : Operand) (s : State) :
    ((subtractWithCarry o s).a.toNat : Int) = sbcDifference s.a (s.operand o) s.carryIn % 256 := by
  have ha : (subtractWithCarry o s).a = BitVec.ofInt 8 (sbcDifference s.a (s.operand o) s.carryIn) := rfl
  rw [ha, BitVec.toNat_ofInt]
  exact Int.toNat_of_nonneg (Int.emod_nonneg _ (by decide))

theorem subtractWithCarry_carry (o : Operand) (s : State) :
    (subtractWithCarry o s).flag .carry = decide (0 ≤ sbcDifference s.a (s.operand o) s.carryIn) :=
  flag_carry_setZN_setA ..

theorem subtractWithCarry_overflow (o : Operand) (s : State) :
    (subtractWithCarry o s).flag .overflow = sbcOverflow s.a (s.operand o) (subtractWithCarry o s).a :=
  flag_overflow_setZN_setA ..

theorem subtractWithCarry_znOf (o : Operand) (s : State) : ZnOf (subtractWithCarry o s) (subtractWithCarry o s).a :=
  znOf_setZN (State.setA _ _) _

theorem subtractWithCarry_otherFlagsKept (o : Operand) (s : State) :
    OtherFlagsKept [.carry, .overflow, .zero, .negative] s (subtractWithCarry o s) :=
  (runEffect_otherFlagsKept (.sbc o) s).mono (w := [.carry, .zero, .overflow, .negative]) (by decide)

/-! The unsigned and the signed reading (R152 (d), (e)). -/

/-- The carry is worth 256: it is what the reduced sum lost (R152 (d)). -/
theorem addWithCarry_unsigned (o : Operand) (s : State) :
    (addWithCarry o s).a.toNat + 256 * bit (addWithCarry o s) .carry =
      s.a.toNat + (s.operand o).toNat + bit s .carry := by
  have hc : bit s .carry ≤ 1 := s.carryIn_le_one
  have hsum : adcSum s.a (s.operand o) s.carryIn = s.a.toNat + (s.operand o).toNat + bit s .carry := rfl
  rw [addWithCarry_a, bit, addWithCarry_carry, hsum]
  by_cases h : 255 < s.a.toNat + (s.operand o).toNat + bit s .carry
  · rw [decide_eq_true h, Bool.toNat_true]
    omega
  · rw [decide_eq_false h, Bool.toNat_false]
    omega

theorem adcOverflow_iff_msb (a o t : Byte) : adcOverflow a o t = true ↔ a.msb = o.msb ∧ t.msb ≠ a.msb := by
  have key : ∀ a o t : Bool, (!(a ^^ o) && (a ^^ t)) = true ↔ a = o ∧ t ≠ a := by decide
  rw [adcOverflow, signBit_ne_zero, BitVec.msb_and, BitVec.msb_not, BitVec.msb_xor, BitVec.msb_xor]
  exact key a.msb o.msb t.msb

/-- The overflow test finds the signed sums that no byte holds (R152 (e)): a sum of numbers of different signs is in
range, and one of equal signs is out of range when the sign bit of the result is the other one. -/
theorem adcOverflow_iff_signed (a o : Byte) {c : Nat} (hc : c ≤ 1) :
    adcOverflow a o (BitVec.ofNat 8 (adcSum a o c)) = true ↔
      signed a + signed o + c < -128 ∨ 127 < signed a + signed o + c := by
  have ht : (BitVec.ofNat 8 (adcSum a o c)).toNat = (a.toNat + o.toNat + c) % 256 := BitVec.toNat_ofNat ..
  rw [adcOverflow_iff_msb, signed_eq_sub_msb a, signed_eq_sub_msb o, BitVec.msb_eq_decide a, BitVec.msb_eq_decide o,
    BitVec.msb_eq_decide (BitVec.ofNat 8 (adcSum a o c)), ht]
  by_cases ha : 128 ≤ a.toNat <;> by_cases ho : 128 ≤ o.toNat <;> simp [ha, ho] <;> omega

theorem addWithCarry_signed (o : Operand) (s : State) :
    (addWithCarry o s).flag .overflow = true ↔
      signed s.a + signed (s.operand o) + bit s .carry < -128 ∨
      127 < signed s.a + signed (s.operand o) + bit s .carry := by
  rw [addWithCarry_overflow]
  exact adcOverflow_iff_signed s.a (s.operand o) s.carryIn_le_one

theorem subtractWithCarry_unsigned (o : Operand) (s : State) :
    ((subtractWithCarry o s).a.toNat : Int) - 256 * (1 - bit (subtractWithCarry o s) .carry) =
      (s.a.toNat : Int) - (s.operand o).toNat - (1 - bit s .carry) := by
  rw [subtractWithCarry_eq_addWithCarry]
  have hadc := addWithCarry_unsigned (.immediate (s.operand o ^^^ 0xFF#8)) s
  have hcomplement := complement_toNat (s.operand o)
  rw [State.operand] at hadc
  omega

theorem subtractWithCarry_signed (o : Operand) (s : State) :
    (subtractWithCarry o s).flag .overflow = true ↔
      signed s.a - signed (s.operand o) - (1 - bit s .carry) < -128 ∨
      127 < signed s.a - signed (s.operand o) - (1 - bit s .carry) := by
  have hsum : signed s.a + signed (s.operand o ^^^ 0xFF#8) + bit s .carry =
      signed s.a - signed (s.operand o) - (1 - bit s .carry) := by
    rw [signed_complement]
    omega
  rw [subtractWithCarry_eq_addWithCarry, ← hsum]
  exact addWithCarry_signed (.immediate (s.operand o ^^^ 0xFF#8)) s

end Sys2Proof.Machine

namespace Sys2Proof.Proofs

open Sys2Proof.Machine Sys2Proof.Claims

/-- Settles O31: ADC's carry is worth 256 and its overflow test is the signed range, and SBC inherits both. -/
theorem carryIsUnsignedAndOverflowSigned : Obligations.CarryIsUnsignedAndOverflowSigned := by
  refine fun s b w => ⟨fun f hf t h => ?adc, fun f hf t h => ?sbc⟩
  case adc =>
    obtain rfl := next_eq_effect h
    rw [effectOf_adcForms b w f hf]
    exact ⟨addWithCarry_unsigned f.2 s, addWithCarry_signed f.2 s⟩
  case sbc =>
    obtain rfl := next_eq_effect h
    rw [effectOf_sbcForms b w f hf]
    exact ⟨subtractWithCarry_unsigned f.2 s, subtractWithCarry_signed f.2 s⟩

/-- Settles O32: the sum with the complement is the difference plus 256, and the overflow tests agree. -/
theorem sbcIsAdcOfTheComplement : Obligations.SbcIsAdcOfTheComplement := by
  refine ⟨fun s v => ?immediate, fun s b w f hf => ?form⟩
  case immediate => exact congrArg Host.Outcome.next (subtractWithCarry_eq_addWithCarry (.immediate v) s)
  case form =>
    rw [exec_eq_effect f.1, effectOf_sbcForms b w f hf]
    exact congrArg Host.Outcome.next (subtractWithCarry_eq_addWithCarry f.2 s)

/-- Settles O29: the effect of every form is the sum of A, its operand and the carry. -/
theorem adcAddsWithCarry : Obligations.AdcAddsWithCarry := by
  refine fun s b w => ⟨rfl, fun f hf => exists_next_of_effect (effectOf_adcForms b w f hf) ?_⟩
  exact ⟨⟨addWithCarry_a f.2 s, addWithCarry_carry f.2 s, addWithCarry_overflow f.2 s, addWithCarry_znOf f.2 s⟩,
    addWithCarry_otherFlagsKept f.2 s, rfl⟩

/-- Settles O30: the effect of every form is the difference of A, its operand and the borrow. -/
theorem sbcSubtractsWithBorrow : Obligations.SbcSubtractsWithBorrow := by
  refine fun s b w => ⟨rfl, fun f hf => exists_next_of_effect (effectOf_sbcForms b w f hf) ?_⟩
  exact ⟨⟨subtractWithCarry_a f.2 s, subtractWithCarry_carry f.2 s, subtractWithCarry_overflow f.2 s,
    subtractWithCarry_znOf f.2 s⟩, subtractWithCarry_otherFlagsKept f.2 s, rfl⟩

end Sys2Proof.Proofs
end

section
/-! PROOFS. AND, ORA and EOR (43_bitwise.md R160 to R162). All three put a byte into A and describe it in Z and N. -/

namespace Sys2Proof.Machine

open Claims

/-! The effect of each form, with the operand the form is listed with. -/

theorem effectOf_andForms (b : Byte) (w : Word) : ∀ f ∈ andForms b w, effectOf f.1 = .and f.2 :=
  List.map_inj_left.1 rfl

theorem effectOf_oraForms (b : Byte) (w : Word) : ∀ f ∈ oraForms b w, effectOf f.1 = .ora f.2 :=
  List.map_inj_left.1 rfl

theorem effectOf_eorForms (b : Byte) (w : Word) : ∀ f ∈ eorForms b w, effectOf f.1 = .eor f.2 :=
  List.map_inj_left.1 rfl

/-! What the effects do. -/

theorem setLogic_a_znOf (r : Byte) (s : State) : (setLogic r s).a = r ∧ ZnOf (setLogic r s) (setLogic r s).a :=
  ⟨rfl, znOf_setZN (s.setA r) r⟩

end Sys2Proof.Machine

namespace Sys2Proof.Proofs

open Sys2Proof.Machine Sys2Proof.Claims

/-- Settles O33: the effect of every form sets A to the bitwise result of A and its operand. -/
theorem bitwiseInstructionsCombineWithA : Obligations.BitwiseInstructionsCombineWithA := by
  refine fun s b w => ⟨fun f hf => ?and, fun f hf => ?ora, fun f hf => ?eor⟩
  case and => exact exists_next_of_effect (effectOf_andForms b w f hf) (setLogic_a_znOf (s.a &&& s.operand f.2) s)
  case ora => exact exists_next_of_effect (effectOf_oraForms b w f hf) (setLogic_a_znOf (s.a ||| s.operand f.2) s)
  case eor => exact exists_next_of_effect (effectOf_eorForms b w f hf) (setLogic_a_znOf (s.a ^^^ s.operand f.2) s)

end Sys2Proof.Proofs
end

section
/-! PROOFS. ASL, LSR, ROL and ROR (44_shift_rotate.md R170 to R173, R176). A rotate is the shift whose vacated bit takes
the old carry, so its equation is that of the shift with the weight of this bit added. -/

namespace Sys2Proof.Machine

open Claims

/-! The effect of each form, with the target the form is listed with. -/

theorem effectOf_aslForms (b : Byte) (w : Word) : ∀ f ∈ aslForms b w, effectOf f.1 = .asl f.2 :=
  List.map_inj_left.1 rfl

theorem effectOf_lsrForms (b : Byte) (w : Word) : ∀ f ∈ lsrForms b w, effectOf f.1 = .lsr f.2 :=
  List.map_inj_left.1 rfl

theorem effectOf_rolForms (b : Byte) (w : Word) : ∀ f ∈ rolForms b w, effectOf f.1 = .rol f.2 :=
  List.map_inj_left.1 rfl

theorem effectOf_rorForms (b : Byte) (w : Word) : ∀ f ∈ rorForms b w, effectOf f.1 = .ror f.2 :=
  List.map_inj_left.1 rfl

/-! The shifted byte and the bit that leaves it, as numbers. -/

theorem shiftLeft_one_toNat (v : Byte) : (v <<< 1).toNat = 2 ^ 1 * (v.toNat % 2 ^ 7) := by
  rw [BitVec.toNat_shiftLeft, Nat.shiftLeft_eq, Nat.mul_comm]
  exact Nat.mul_mod_mul_left 2 v.toNat (2 ^ 7)

theorem shiftRight_one_toNat (v : Byte) : (v >>> 1).toNat = v.toNat / 2 := Nat.shiftRight_eq_div_pow v.toNat 1

theorem getLsbD_toNat (v : Byte) (i : Nat) : (v.getLsbD i).toNat = v.toNat / 2 ^ i % 2 := Nat.toNat_testBit ..

/-- Doubling a byte: bit 7 leaves it with weight 256. -/
theorem shiftLeft_one_add_bit7 (v : Byte) : (v <<< 1).toNat + 256 * (v.getLsbD 7).toNat = 2 * v.toNat := by
  have hv := v.isLt
  rw [shiftLeft_one_toNat, getLsbD_toNat]
  omega

/-- Halving a byte: bit 0 is the remainder. -/
theorem shiftRight_one_add_bit0 (v : Byte) : 2 * (v >>> 1).toNat + (v.getLsbD 0).toNat = v.toNat := by
  rw [shiftRight_one_toNat, getLsbD_toNat]
  omega

/-! The old carry in the vacated bit (R172, R173). -/

theorem carryAtBit0_toNat (s : State) : s.carryAtBit0.toNat = bit s .carry := by
  rw [State.carryAtBit0, bit]
  cases s.flag .carry <;> rfl

theorem carryAtBit7_toNat (s : State) : s.carryAtBit7.toNat = 2 ^ 7 * bit s .carry := by
  rw [State.carryAtBit7, bit]
  cases s.flag .carry <;> rfl

theorem shiftLeft_one_or_carryAtBit0_toNat (v : Byte) (s : State) :
    ((v <<< 1) ||| s.carryAtBit0).toNat = (v <<< 1).toNat + bit s .carry := by
  rw [BitVec.toNat_or, carryAtBit0_toNat, shiftLeft_one_toNat]
  exact (Nat.two_pow_add_eq_or_of_lt (Bool.toNat_lt _) _).symm

theorem shiftRight_one_or_carryAtBit7_toNat (v : Byte) (s : State) :
    ((v >>> 1) ||| s.carryAtBit7).toNat = (v >>> 1).toNat + 128 * bit s .carry := by
  have hlow : (v >>> 1).toNat < 2 ^ 7 := by
    rw [shiftRight_one_toNat]
    omega
  rw [BitVec.toNat_or, carryAtBit7_toNat, Nat.or_comm, Nat.add_comm]
  exact (Nat.two_pow_add_eq_or_of_lt hlow _).symm

/-! What the common end of the four leaves in the target and P (R176). -/

theorem resultAt_shiftTo (t : Target) (b : Bool) (r : Byte) (s : State) : resultAt s (shiftTo t b r s) t = r := by
  cases t with
  | accumulator => rfl
  | memory m => exact s.memRead_memWrite_same (s.effectiveAddress m) r

theorem bit_carry_shiftTo (t : Target) (b : Bool) (r : Byte) (s : State) : bit (shiftTo t b r s) .carry = b.toNat := by
  rw [bit, shiftTo, State.setZN_other _ _ (by decide) (by decide), State.flag_setFlag_same]

theorem znOf_shiftTo (t : Target) (b : Bool) (r : Byte) (s : State) :
    ZnOf (shiftTo t b r s) (resultAt s (shiftTo t b r s) t) := by
  rw [resultAt_shiftTo]
  exact znOf_setZN _ r

/-! The equation of each of the four. -/

theorem shiftLeft_nineBits (t : Target) (s : State) :
    (resultAt s (shiftLeft t s) t).toNat + 256 * bit (shiftLeft t s) .carry = 2 * (s.readTarget t).toNat := by
  rw [shiftLeft, resultAt_shiftTo, bit_carry_shiftTo]
  exact shiftLeft_one_add_bit7 (s.readTarget t)

theorem shiftRight_nineBits (t : Target) (s : State) :
    2 * (resultAt s (shiftRight t s) t).toNat + bit (shiftRight t s) .carry = (s.readTarget t).toNat := by
  rw [shiftRight, resultAt_shiftTo, bit_carry_shiftTo]
  exact shiftRight_one_add_bit0 (s.readTarget t)

theorem rotateLeft_nineBits (t : Target) (s : State) :
    (resultAt s (rotateLeft t s) t).toNat + 256 * bit (rotateLeft t s) .carry =
      2 * (s.readTarget t).toNat + bit s .carry := by
  have hshift := shiftLeft_one_add_bit7 (s.readTarget t)
  rw [rotateLeft, resultAt_shiftTo, bit_carry_shiftTo, shiftLeft_one_or_carryAtBit0_toNat]
  omega

theorem rotateRight_nineBits (t : Target) (s : State) :
    2 * (resultAt s (rotateRight t s) t).toNat + bit (rotateRight t s) .carry =
      (s.readTarget t).toNat + 256 * bit s .carry := by
  have hshift := shiftRight_one_add_bit0 (s.readTarget t)
  rw [rotateRight, resultAt_shiftTo, bit_carry_shiftTo, shiftRight_one_or_carryAtBit7_toNat]
  omega

end Sys2Proof.Machine

namespace Sys2Proof.Proofs

open Sys2Proof.Machine Sys2Proof.Claims

/-- Settles O34: the effect of every form is the shift or rotate of its target, and each of the four ends in one write
of the target, the carry and SetZN. -/
theorem shiftsAndRotatesMoveOneBitThroughCarry : Obligations.ShiftsAndRotatesMoveOneBitThroughCarry := by
  refine fun s b w => ⟨fun f hf => ?asl, fun f hf => ?lsr, fun f hf => ?rol, fun f hf => ?ror⟩
  case asl => exact exists_next_of_effect (effectOf_aslForms b w f hf) ⟨shiftLeft_nineBits f.2 s, znOf_shiftTo ..⟩
  case lsr => exact exists_next_of_effect (effectOf_lsrForms b w f hf) ⟨shiftRight_nineBits f.2 s, znOf_shiftTo ..⟩
  case rol => exact exists_next_of_effect (effectOf_rolForms b w f hf) ⟨rotateLeft_nineBits f.2 s, znOf_shiftTo ..⟩
  case ror => exact exists_next_of_effect (effectOf_rorForms b w f hf) ⟨rotateRight_nineBits f.2 s, znOf_shiftTo ..⟩

end Sys2Proof.Proofs
end

section
/-! PROOFS. INC, DEC, INX, INY, DEX and DEY (45_inc_dec.md R180 to R185). All six replace a byte by the next one up or
down and describe the new byte in Z and N. -/

namespace Sys2Proof.Machine

open Claims

/-! The effect of each form, with the operand the form is listed with. -/

theorem effectOf_incForms (b : Byte) (w : Word) : ∀ f ∈ incForms b w, effectOf f.1 = .inc f.2 :=
  List.map_inj_left.1 rfl

theorem effectOf_decForms (b : Byte) (w : Word) : ∀ f ∈ decForms b w, effectOf f.1 = .dec f.2 :=
  List.map_inj_left.1 rfl

/-! One up and one down, as numbers (45_inc_dec.md R180, R181). -/

theorem add_one_toNat (v : Byte) : (v + 1#8).toNat = (v.toNat + 1) % 256 := BitVec.toNat_add v 1#8

theorem sub_one_toNat (v : Byte) : (v - 1#8).toNat = (v.toNat + 255) % 256 := by
  rw [BitVec.toNat_sub, Nat.add_comm]
  rfl

/-! What the effects do. -/

theorem memRead_updateCell (m : MemOperand) (g : Byte → Byte) (s : State) :
    (updateCell m g s).memRead (s.effectiveAddress m) = g (s.memRead (s.effectiveAddress m)) :=
  s.memRead_memWrite_same (s.effectiveAddress m) _

theorem znOf_updateCell (m : MemOperand) (g : Byte → Byte) (s : State) :
    ZnOf (updateCell m g s) ((updateCell m g s).memRead (s.effectiveAddress m)) := by
  rw [memRead_updateCell]
  exact znOf_setZN _ _

theorem incrementCell_counts_up (m : MemOperand) (s : State) :
    ((incrementCell m s).memRead (s.effectiveAddress m)).toNat =
      ((s.memRead (s.effectiveAddress m)).toNat + 1) % 256 ∧
    ZnOf (incrementCell m s) ((incrementCell m s).memRead (s.effectiveAddress m)) := by
  refine ⟨?_, znOf_updateCell m (· + 1#8) s⟩
  rw [incrementCell, memRead_updateCell, add_one_toNat]

theorem decrementCell_counts_down (m : MemOperand) (s : State) :
    ((decrementCell m s).memRead (s.effectiveAddress m)).toNat =
      ((s.memRead (s.effectiveAddress m)).toNat + 255) % 256 ∧
    ZnOf (decrementCell m s) ((decrementCell m s).memRead (s.effectiveAddress m)) := by
  refine ⟨?_, znOf_updateCell m (· - 1#8) s⟩
  rw [decrementCell, memRead_updateCell, sub_one_toNat]

theorem znOf_countX (r : Byte) (s : State) : ZnOf (countX r s) (countX r s).x := znOf_setZN (s.setX r) r

theorem znOf_countY (r : Byte) (s : State) : ZnOf (countY r s) (countY r s).y := znOf_setZN (s.setY r) r

end Sys2Proof.Machine

namespace Sys2Proof.Proofs

open Sys2Proof.Machine Sys2Proof.Claims

/-- Settles O35: the effect of every form counts one cell or register up or down and ends in SetZN. -/
theorem incrementsAndDecrementsWrapModulo256 : Obligations.IncrementsAndDecrementsWrapModulo256 := by
  refine fun s b w => ⟨fun f hf => ?inc, fun f hf => ?dec, ?inx, ?iny, ?dex, ?dey⟩
  case inc => exact exists_next_of_effect (effectOf_incForms b w f hf) (incrementCell_counts_up f.2 s)
  case dec => exact exists_next_of_effect (effectOf_decForms b w f hf) (decrementCell_counts_down f.2 s)
  case inx => exact exists_next_of_effect rfl ⟨add_one_toNat s.x, znOf_countX _ s⟩
  case iny => exact exists_next_of_effect rfl ⟨add_one_toNat s.y, znOf_countY _ s⟩
  case dex => exact exists_next_of_effect rfl ⟨sub_one_toNat s.x, znOf_countX _ s⟩
  case dey => exact exists_next_of_effect rfl ⟨sub_one_toNat s.y, znOf_countY _ s⟩

end Sys2Proof.Proofs
end

section
/-! PROOFS. CMP, CPX, CPY and BIT (46_compare_bit.md R190 to R193, R197). Each is one computation on P: `Compare` of a
register and the operand, or BIT's test of the cell at the effective address. -/

namespace Sys2Proof.Machine

open Claims

/-! The effect of each form, with the operand the form is listed with. -/

theorem effectOf_cmpForms (b : Byte) (w : Word) : ∀ f ∈ cmpForms b w, effectOf f.1 = .cmp f.2 :=
  List.map_inj_left.1 rfl

theorem effectOf_cpxForms (b : Byte) (w : Word) : ∀ f ∈ cpxForms b w, effectOf f.1 = .cpx f.2 :=
  List.map_inj_left.1 rfl

theorem effectOf_cpyForms (b : Byte) (w : Word) : ∀ f ∈ cpyForms b w, effectOf f.1 = .cpy f.2 :=
  List.map_inj_left.1 rfl

theorem effectOf_bitForms (b : Byte) (w : Word) : ∀ f ∈ bitForms b w, effectOf f.1 = .bit f.2 :=
  List.map_inj_left.1 rfl

/-! `Compare(reg, o)`, whichever register is compared (R197). -/

theorem State.compare_carry (s : State) (reg o : Byte) :
    (s.compare reg o).flag .carry = decide (o.toNat ≤ reg.toNat) := by
  rw [State.compare, State.setZN_other _ _ (by decide) (by decide), State.flag_setFlag_same]

theorem State.compare_otherFlagsKept (s : State) (reg o : Byte) :
    OtherFlagsKept [.carry, .zero, .negative] s (s.compare reg o) :=
  ((OtherFlagsKept.of_p_eq rfl).setFlag (by decide) _).setZN (by decide) (by decide) _

theorem State.compare_sets_flags (s : State) (reg o : Byte) :
    s.compare reg o = { s with p := (s.compare reg o).p } ∧
    (s.compare reg o).flag .carry = decide (o.toNat ≤ reg.toNat) ∧ ZnOf (s.compare reg o) (reg - o) ∧
    OtherFlagsKept [.carry, .zero, .negative] s (s.compare reg o) :=
  ⟨rfl, s.compare_carry reg o, znOf_setZN _ _, s.compare_otherFlagsKept reg o⟩

/-! BIT's three flags; it assigns Z, then N, then V (R193). -/

theorem State.bitTest_zero (s : State) (m : Byte) :
    (s.bitTest m).flag .zero = decide ((s.a &&& m).toNat = 0) := by
  rw [State.bitTest, State.flag_setFlag_other _ _ (by decide), State.flag_setFlag_other _ _ (by decide),
    State.flag_setFlag_same, Bool.eq_iff_iff, beq_iff_eq, decide_eq_true_iff, BitVec.toNat_eq]
  rfl

theorem State.bitTest_negative (s : State) (m : Byte) : (s.bitTest m).flag .negative = m[7] := by
  rw [State.bitTest, State.flag_setFlag_other _ _ (by decide), State.flag_setFlag_same]
  rfl

theorem State.bitTest_overflow (s : State) (m : Byte) : (s.bitTest m).flag .overflow = m[6] :=
  State.flag_setFlag_same ..

end Sys2Proof.Machine

namespace Sys2Proof.Proofs

open Sys2Proof.Machine Sys2Proof.Claims

/-- Settles O36: the effect of every form is `Compare` of its register and its operand. -/
theorem comparisonsSetCarryZeroNegative : Obligations.ComparisonsSetCarryZeroNegative := by
  refine fun s b w => ⟨rfl, rfl, rfl, fun f hf => ?cmp, fun f hf => ?cpx, fun f hf => ?cpy⟩
  case cmp => exact exists_next_of_effect (effectOf_cmpForms b w f hf) (s.compare_sets_flags s.a (s.operand f.2))
  case cpx => exact exists_next_of_effect (effectOf_cpxForms b w f hf) (s.compare_sets_flags s.x (s.operand f.2))
  case cpy => exact exists_next_of_effect (effectOf_cpyForms b w f hf) (s.compare_sets_flags s.y (s.operand f.2))

/-- Settles O37: the effect of both forms is the bit test of the cell at the effective address. -/
theorem bitTestsAgainstMemory : Obligations.BitTestsAgainstMemory := by
  refine fun s b w f hf => exists_next_of_effect (effectOf_bitForms b w f hf) ⟨rfl, ?_⟩
  exact ⟨s.bitTest_zero _, s.bitTest_negative _, s.bitTest_overflow _⟩

end Sys2Proof.Proofs
end

section
/-! PROOFS. The eight branches (47_branch.md R200 to R209). All eight run `branchIf` on one flag; what is proved is that
adding the sign-extended offset as a word is adding the signed offset modulo 65536. -/

namespace Sys2Proof.Machine

open Claims

theorem signed_eq_toInt (b : Byte) : signed b = b.toInt := by
  rw [signed_eq_sub_msb, BitVec.toInt_eq_msb_cond]
  cases b.msb <;> simp

theorem signExtend_eq_ofInt_signed (b : Byte) : signExtend b = BitVec.ofInt 16 (signed b) := by
  rw [signed_eq_toInt]
  rfl

theorem add_signExtend (pc : Word) (offset : Byte) :
    pc + signExtend offset = BitVec.ofInt 16 ((pc.toNat : Int) + signed offset) := by
  rw [BitVec.ofInt_add, BitVec.ofInt_natCast, BitVec.ofNat_toNat, BitVec.setWidth_eq, signExtend_eq_ofInt_signed]

theorem branchIf_eq_branched (taken : Bool) (offset : Byte) (s : State) :
    branchIf taken offset s = branched taken offset s := by
  rw [branchIf, branched, add_signExtend, State.setPc]

theorem exec_of_branchEffect {i : Instr} {offset : Byte} {s : State} (f : Flag) (wanted : Bool)
    (he : effectOf i = .branch f wanted offset) :
    exec i s = .next (branched (bif wanted then s.flag f else !s.flag f) offset s) := by
  rw [exec_eq_effect, he, runEffect, branchIf_eq_branched]

end Sys2Proof.Machine

namespace Sys2Proof.Proofs

open Sys2Proof.Machine Sys2Proof.Claims

/-- Settles O38: the effect of every branch is `branchIf` on its flag, and a taken branch adds the signed offset. -/
theorem branchesTestOneFlagAndMovePc : Obligations.BranchesTestOneFlagAndMovePc := by
  refine fun s offset => ⟨?bpl, ?bmi, ?bvc, ?bvs, ?bcc, ?bcs, ?bne, ?beq⟩
  case bpl => exact exec_of_branchEffect .negative false rfl
  case bmi => exact exec_of_branchEffect .negative true rfl
  case bvc => exact exec_of_branchEffect .overflow false rfl
  case bvs => exact exec_of_branchEffect .overflow true rfl
  case bcc => exact exec_of_branchEffect .carry false rfl
  case bcs => exact exec_of_branchEffect .carry true rfl
  case bne => exact exec_of_branchEffect .zero false rfl
  case beq => exact exec_of_branchEffect .zero true rfl

end Sys2Proof.Proofs
end

section
/-! PROOFS. The stack (10_state.md R33 to R35; 49_stack_transfer_flag_system.md R234): what a pull answers when SP is one
or two below a cell, and what a row of pushes leaves in the cells. -/

namespace Sys2Proof.Machine

open Claims

theorem sp_pred_toNat (sp : Byte) : (sp - 1#8).toNat = (sp.toNat + 255) % 256 := by
  rw [BitVec.toNat_sub]
  exact congrArg (· % 256) (Nat.add_comm ..)

theorem sp_pred_pred_toNat (sp : Byte) : (sp - 1#8 - 1#8).toNat = (sp.toNat + 254) % 256 := by
  rw [sp_pred_toNat, sp_pred_toNat]
  omega

/-- The `n`-th stack cell above SP, as the spec numbers it (10_state.md R34, R35). -/
theorem ofNat_stack_above (sp : Byte) (n : Nat) :
    BitVec.ofNat 16 (0x0100 + (sp.toNat + n) % 256) = stackAddress (sp + BitVec.ofNat 8 n) := by
  rw [stackAddress_eq_ofNat, BitVec.toNat_add, BitVec.toNat_ofNat, Nat.add_mod_mod]

theorem cell_stack_above (s : State) (sp : Byte) (n : Nat) :
    cell s (0x0100 + (sp.toNat + n) % 256) = (s.memRead (stackAddress (sp + BitVec.ofNat 8 n))).toNat := by
  rw [cell, ofNat_stack_above]

theorem cell_stack_below (s : State) (sp : Byte) :
    cell s (0x0100 + (sp.toNat + 255) % 256) = (s.memRead (stackAddress (sp - 1#8))).toNat := by
  rw [← sp_pred_toNat, cell_stack]

theorem memRead_push8_same (v : Byte) (s : State) : (push8 v s).memRead (stackAddress s.sp) = v := by
  rw [memRead_push8, if_pos rfl]

/-- The next push leaves the pushed byte alone. -/
theorem memRead_push8_push8 (v w : Byte) (s : State) : (push8 w (push8 v s)).memRead (stackAddress s.sp) = v := by
  rw [memRead_push8, push8_sp, if_neg (stackAddress_pred_ne s.sp), memRead_push8_same]

theorem memRead_pushWord_low (w : Word) (s : State) :
    (pushWord w s).memRead (stackAddress (s.sp - 1#8)) = lowByte w :=
  memRead_push8_same _ (push8 (highByte w) s)

theorem memRead_pushWord_high (w : Word) (s : State) : (pushWord w s).memRead (stackAddress s.sp) = highByte w :=
  memRead_push8_push8 ..

/-- A push writes the cell SP names and lowers SP (10_state.md R33). -/
theorem push8_writes_one_cell (v : Byte) (s : State) :
    cell (push8 v s) (0x0100 + s.sp.toNat) = v.toNat ∧ (push8 v s).sp.toNat = (s.sp.toNat + 255) % 256 ∧
    OtherCellsKept (stackAddress s.sp) s (push8 v s) ∧
    push8 v s = { s with sp := (push8 v s).sp, mem := (push8 v s).mem } := by
  refine ⟨?_, sp_pred_toNat s.sp, fun other hother => ?_, rfl⟩
  · rw [cell_stack, memRead_push8_same]
  · rw [memRead_push8, if_neg hother.symm]

/-- A pull takes the cell above SP, whatever has happened since it was pushed. -/
theorem pull8_byte_of_sp {u : State} {sp : Byte} (h : u.sp = sp - 1#8) :
    (pull8 u).1 = u.memRead (stackAddress sp) := by
  rw [pull8_byte, h, BitVec.sub_add_cancel]

theorem pull8_sp_of_sp {u : State} {sp : Byte} (h : u.sp = sp - 1#8) : (pull8 u).2.sp = sp := by
  rw [pull8_sp, h, BitVec.sub_add_cancel]

/-- Two pulls take the two cells above SP, the low byte first (48_jump_call_return.md R218). -/
theorem pullWord_word_of_sp {u : State} {sp : Byte} (h : u.sp = sp - 1#8 - 1#8) :
    (pullWord u).1 = wordOf (u.memRead (stackAddress sp)) (u.memRead (stackAddress (sp - 1#8))) := by
  rw [pullWord_word, h, BitVec.sub_add_cancel, BitVec.sub_add_cancel]

theorem pullWord_sp_of_sp {u : State} {sp : Byte} (h : u.sp = sp - 1#8 - 1#8) : (pullWord u).2.sp = sp := by
  rw [pullWord_sp, h, BitVec.sub_add_cancel, BitVec.sub_add_cancel]

/-- Bytes pushed one after the other. -/
def pushAll (vs : List Byte) (s : State) : State := vs.foldl (fun t v => push8 v t) s

theorem pushAll_concat (vs : List Byte) (v : Byte) (s : State) : pushAll (vs ++ [v]) s = push8 v (pushAll vs s) := by
  rw [pushAll, List.foldl_append]
  rfl

theorem pushAll_sp (vs : List Byte) (s : State) : (pushAll vs s).sp = s.sp - BitVec.ofNat 8 vs.length := by
  induction vs using List.reverseRecOn with
  | nil => exact (BitVec.sub_zero _).symm
  | append_singleton vs v ih =>
    rw [pushAll_concat, push8_sp, ih, List.length_append, List.length_singleton, BitVec.ofNat_add, sub_sub]

/-- Fewer than 256 pushes apart, two stack cells differ (10_state.md R35). -/
theorem stackAddress_sub_ne {j k : Nat} (hj : j < 256) (hk : k < 256) (h : j ≠ k) (sp : Byte) :
    stackAddress (sp - BitVec.ofNat 8 j) ≠ stackAddress (sp - BitVec.ofNat 8 k) := by
  intro heq
  have hsub := congrArg BitVec.toNat (stackAddress_injective heq)
  simp only [BitVec.toNat_sub, BitVec.toNat_ofNat] at hsub
  omega

/-- Up to 256 pushed bytes lie one below the other from the cell SP named: no push reaches an earlier one's cell. -/
theorem memRead_pushAll {vs : List Byte} (s : State) (hlen : vs.length ≤ 256) {k : Nat} (hk : k < vs.length) :
    (pushAll vs s).memRead (stackAddress (s.sp - BitVec.ofNat 8 k)) = vs[k] := by
  induction vs using List.reverseRecOn with
  | nil => exact absurd hk (Nat.not_lt_zero k)
  | append_singleton vs v ih =>
    rw [List.length_append, List.length_singleton] at hlen hk
    rw [pushAll_concat, memRead_push8, pushAll_sp]
    by_cases hlast : k = vs.length
    · subst hlast
      rw [if_pos rfl, List.getElem_concat_length rfl]
    · have hbefore : k < vs.length := by omega
      rw [if_neg (stackAddress_sub_ne (by omega) (by omega) (Ne.symm hlast) s.sp), ih (by omega) hbefore,
        List.getElem_append_left hbefore]

end Sys2Proof.Machine

namespace Sys2Proof.Proofs

open Sys2Proof.Machine Sys2Proof.Claims

/-- Settles O17: a pull takes the last pushed cell, and 256 pushes go once around the stack page. -/
theorem stackIsLastInFirstOut : Obligations.StackIsLastInFirstOut := by
  refine ⟨fun s v1 v2 => ?pair, fun s vs hlen => ⟨?sp, fun k hk => ?cells⟩⟩
  case pair =>
    have hsp : (pull8 (push8 v2 (push8 v1 s))).2.sp = s.sp - 1#8 := pull8_sp_of_sp rfl
    refine ⟨?_, ?_, pull8_sp_of_sp hsp, rfl⟩
    · exact (pull8_byte_of_sp rfl).trans (memRead_push8_same v2 (push8 v1 s))
    · exact (pull8_byte_of_sp hsp).trans (memRead_push8_push8 v1 v2 s)
  case sp => exact (pushAll_sp vs s).trans (by rw [hlen]; exact BitVec.sub_zero _)
  case cells => exact memRead_pushAll s hlen.le hk

end Sys2Proof.Proofs
end

section
/-! PROOFS. JMP, JSR, RTS and RTI (48_jump_call_return.md R215 to R220; 60_exceptions.md R285). JMP Indirect's pointer
wraps inside its page or not; a return takes the cells above SP, and so undoes a call or a frame that left SP there. -/

namespace Sys2Proof.Machine

open Claims

theorem and_wordOf (w : Word) (h l : Byte) : w &&& wordOf h l = wordOf (highByte w &&& h) (lowByte w &&& l) := by
  conv_lhs => rw [← wordOf_highByte_lowByte w]
  exact BitVec.and_append

/-- With the page wrap the pointer keeps its high byte, and its low byte is raised modulo 256 (40_addressing.md R133). -/
theorem pageWrap_eq_wordOf (q : Word) :
    (q &&& 0xFF00#16) ||| ((q + 1#16) &&& 0x00FF#16) = wordOf (highByte q) (lowByte (q + 1#16)) := by
  have hhigh : 0xFF00#16 = wordOf (BitVec.allOnes 8) 0#8 := rfl
  have hlow : 0x00FF#16 = wordOf 0#8 (BitVec.allOnes 8) := rfl
  rw [hhigh, hlow, and_wordOf, and_wordOf, BitVec.and_allOnes, BitVec.and_allOnes, BitVec.and_zero, BitVec.and_zero]
  exact BitVec.or_append.trans (by rw [BitVec.or_zero, BitVec.zero_or]; rfl)

theorem pointerHighAddress_toNat_of_noWrap {c : Params} (h : c.jmpIndPageWrap = false) (q : Word) :
    (pointerHighAddress c q).toNat = (q.toNat + 1) % 65536 := by
  rw [pointerHighAddress, h]
  exact BitVec.toNat_add ..

theorem pointerHighAddress_toNat_of_wrap {c : Params} (h : c.jmpIndPageWrap = true) (q : Word) :
    (pointerHighAddress c q).toNat = q.toNat / 256 * 256 + (q.toNat % 256 + 1) % 256 := by
  have hnext : (q + 1#16).toNat = (q.toNat + 1) % 65536 := BitVec.toNat_add ..
  rw [pointerHighAddress, h, if_pos rfl, pageWrap_eq_wordOf, wordOf_toNat, highByte_toNat, lowByte_toNat, hnext]
  omega

theorem State.indirectTarget_toNat (s : State) (q : Word) :
    (s.indirectTarget q).toNat = cell s (pointerHighAddress s.params q).toNat * 256 + cell s q.toNat := by
  rw [State.indirectTarget, wordOf_toNat, cell_toNat, cell_toNat]

/-- The word two bytes make, read off two stack cells (20_memory.md R55). -/
theorem wordOf_stack_above (s : State) (sp : Byte) (m n : Nat) :
    (wordOf (s.memRead (stackAddress (sp + BitVec.ofNat 8 n)))
        (s.memRead (stackAddress (sp + BitVec.ofNat 8 m)))).toNat =
      cell s (0x0100 + (sp.toNat + m) % 256) + cell s (0x0100 + (sp.toNat + n) % 256) * 256 := by
  rw [wordOf_toNat, cell_stack_above, cell_stack_above, Nat.add_comm]

/-! What JSR leaves in SP and in its two stack cells (R217). -/

theorem runEffect_jsr_sp (target : Word) (s : State) : (runEffect (.jsr target) s).sp = s.sp - 1#8 - 1#8 := rfl

theorem memRead_runEffect_jsr_high (target : Word) (s : State) :
    (runEffect (.jsr target) s).memRead (stackAddress s.sp) = highByte (s.pc - 1#16) :=
  memRead_pushWord_high (s.pc - 1#16) s

theorem memRead_runEffect_jsr_low (target : Word) (s : State) :
    (runEffect (.jsr target) s).memRead (stackAddress (s.sp - 1#8)) = lowByte (s.pc - 1#16) :=
  memRead_pushWord_low (s.pc - 1#16) s

/-! What the two returns leave in SP, P and PC, in the state before (R218, R219). -/

theorem sp_add_two (sp : Byte) : sp + 1#8 + 1#8 = sp + 2#8 := BitVec.add_assoc ..

theorem sp_add_three (sp : Byte) : sp + 1#8 + 1#8 + 1#8 = sp + 3#8 := by
  rw [sp_add_two]
  exact BitVec.add_assoc ..

theorem runEffect_rts_sp (s : State) : (runEffect .rts s).sp = s.sp + 2#8 := sp_add_two s.sp

theorem runEffect_rts_pc (s : State) :
    (runEffect .rts s).pc =
      wordOf (s.memRead (stackAddress (s.sp + 2#8))) (s.memRead (stackAddress (s.sp + 1#8))) + 1#16 := by
  rw [← sp_add_two]
  rfl

theorem runEffect_rti_sp (s : State) : (runEffect .rti s).sp = s.sp + 3#8 := sp_add_three s.sp

theorem runEffect_rti_p (s : State) :
    (runEffect .rti s).p = s.memRead (stackAddress (s.sp + 1#8)) ||| unusedMask := rfl

theorem runEffect_rti_pc (s : State) :
    (runEffect .rti s).pc =
      wordOf (s.memRead (stackAddress (s.sp + 3#8))) (s.memRead (stackAddress (s.sp + 2#8))) := by
  rw [← sp_add_three, ← sp_add_two]
  rfl

/-- The frame a program pushes for RTI, in the order of the pushes (60_exceptions.md R285). -/
def softwareFrame (target : Word) (status : Byte) : List Byte := [highByte target, lowByte target, status]

theorem memRead_softwareFrame (s : State) (target : Word) (status : Byte) (k : Nat) (hk : k < 3) :
    (pushAll (softwareFrame target status) s).memRead (stackAddress (s.sp - BitVec.ofNat 8 k)) =
      (softwareFrame target status)[k]'hk :=
  memRead_pushAll (vs := softwareFrame target status) s (show 3 ≤ 256 by decide) hk

end Sys2Proof.Machine

namespace Sys2Proof.Proofs

open Sys2Proof.Machine Sys2Proof.Claims

/-- Settles O39, by where the parameter puts the high byte of the pointer. -/
theorem jumpsReplacePc : Obligations.JumpsReplacePc := by
  refine fun s w => ⟨exec_eq_effect .., s.indirectTarget w, exec_eq_effect .., fun h => ?noWrap, fun h => ?wrap⟩
  case noWrap => rw [s.indirectTarget_toNat, pointerHighAddress_toNat_of_noWrap h]
  case wrap => rw [s.indirectTarget_toNat, pointerHighAddress_toNat_of_wrap h]

/-- Settles O40, from the two cells of a pushed word. -/
theorem jsrPushesTheReturnWordHighFirst : Obligations.JsrPushesTheReturnWordHighFirst := by
  intro s target
  have hreturn : (s.pc - 1#16).toNat = (s.pc.toNat + 65535) % 65536 := by
    rw [BitVec.toNat_sub]
    exact congrArg (· % 65536) (Nat.add_comm ..)
  refine exists_next_of_effect (e := .jsr target) rfl ⟨rfl, ?sp, ⟨?high, ?low⟩, rfl⟩
  case sp => rw [runEffect_jsr_sp, sp_pred_pred_toNat]
  case high => rw [cell_stack, memRead_runEffect_jsr_high, highByte_toNat, hreturn]
  case low => rw [cell_stack_below, memRead_runEffect_jsr_low, lowByte_toNat, hreturn]

/-- Settles O41: each pull takes the next stack cell above SP. -/
theorem returnsPullPcLowByteFirst : Obligations.ReturnsPullPcLowByteFirst := by
  refine fun s => ⟨exists_next_of_effect (e := .rts) rfl ?rts, exists_next_of_effect (e := .rti) rfl ?rti⟩
  case rts =>
    refine ⟨?_, ?_, rfl⟩
    · rw [runEffect_rts_sp, BitVec.toNat_add]
      rfl
    · rw [runEffect_rts_pc, BitVec.toNat_add, ← wordOf_stack_above]
      rfl
  case rti =>
    refine ⟨?_, ?_, ?_, rfl⟩
    · rw [runEffect_rti_sp, BitVec.toNat_add]
      rfl
    · rw [runEffect_rti_p, ofNat_stack_above]
      rfl
    · rw [runEffect_rti_pc, ← wordOf_stack_above]

/-- Settles O42: RTS pulls the word JSR pushed, which is one below the return address. -/
theorem rtsUndoesJsr : Obligations.RtsUndoesJsr := by
  intro s t u target h hsp hhigh hlow
  rw [next_eq_effect h] at hsp hhigh hlow
  rw [effectOf, runEffect_jsr_sp] at hsp
  rw [effectOf, memRead_runEffect_jsr_high] at hhigh
  rw [effectOf, memRead_runEffect_jsr_low] at hlow
  have hword : (pullWord u).1 = s.pc - 1#16 := by
    rw [pullWord_word_of_sp hsp, hhigh, hlow, wordOf_highByte_lowByte]
  refine exists_next_of_effect (e := .rts) rfl ⟨?_, pullWord_sp_of_sp hsp⟩
  rw [runEffect, hword, State.setPc_pc, BitVec.sub_add_cancel]

/-- Settles O43: RTI pulls the frame's three cells, the last pushed first. -/
theorem rtiConsumesASoftwareFrame : Obligations.RtiConsumesASoftwareFrame := by
  intro s target status
  have hsp : (pushAll (softwareFrame target status) s).sp = s.sp - 3#8 := pushAll_sp ..
  have hone : s.sp - 3#8 + 1#8 = s.sp - 2#8 := sub_add ..
  have htwo : s.sp - 3#8 + 2#8 = s.sp - 1#8 := sub_add ..
  have hthree : s.sp - 3#8 + 3#8 = s.sp - 0#8 := sub_add ..
  refine exists_next_of_effect (s := pushAll (softwareFrame target status) s) (e := .rti) rfl ⟨?pc, ?p, ?sp⟩
  case pc =>
    rw [runEffect_rti_pc, hsp, hthree, htwo, memRead_softwareFrame s target status 0 (by decide),
      memRead_softwareFrame s target status 1 (by decide)]
    exact wordOf_highByte_lowByte target
  case p =>
    rw [runEffect_rti_p, hsp, hone, memRead_softwareFrame s target status 2 (by decide)]
    rfl
  case sp => rw [runEffect_rti_sp, hsp, BitVec.sub_add_cancel]

end Sys2Proof.Proofs
end

section
/-! PROOFS. The instructions on the stack, between registers and on single flags, and those that do nothing
(49_stack_transfer_flag_system.md R230 to R262). -/

namespace Sys2Proof.Machine

open Claims

theorem or_unusedMask_of_set {p : Byte} (h : p[5] = true) : p ||| unusedMask = p := by
  have key : ∀ p : Byte, p[5] = true → p ||| unusedMask = p := by decide
  exact key p h

/-- What PHP pushes, PLP loads again: with bit 5 set already, only the bit PHP adds differs (D12, D13). -/
theorem pushedStatus_or_unusedMask {p : Byte} (h : p[5] = true) (c : Params) :
    p ||| phpPushOr c ||| unusedMask = if c.phpPushesBreak then p ||| 0x10#8 else p := by
  rw [BitVec.or_assoc, BitVec.or_comm (phpPushOr c), ← BitVec.or_assoc, or_unusedMask_of_set h, phpPushOr]
  cases c.phpPushesBreak with
  | false => exact BitVec.or_zero
  | true => rfl

/-- PLA puts the pulled byte into A and describes it in Z and N (R232). -/
theorem runEffect_pla_pulls_a (s : State) :
    (runEffect .pla s).a = (pull8 s).1 ∧ ZnOf (runEffect .pla s) (pull8 s).1 ∧
    (runEffect .pla s).sp = (pull8 s).2.sp :=
  ⟨rfl, znOf_setZN _ _, rfl⟩

theorem pull8_sp_toNat (s : State) : (pull8 s).2.sp.toNat = (s.sp.toNat + 1) % 256 := BitVec.toNat_add ..

/-- An instruction that clears one flag clears its bit of P and changes nothing else. -/
theorem exec_of_clearFlag {i : Instr} (f : Flag) (he : effectOf i = .setFlag f false) (s : State) :
    exec i s = .next { s with p := s.p &&& ~~~f.mask } := by
  rw [exec_eq_effect, he]
  rfl

theorem exec_of_setFlag {i : Instr} (f : Flag) (he : effectOf i = .setFlag f true) (s : State) :
    exec i s = .next { s with p := s.p ||| f.mask } := by
  rw [exec_eq_effect, he]
  rfl

theorem exec_of_nop {i : Instr} (he : effectOf i = .nop) (s : State) : exec i s = .next s := by
  rw [exec_eq_effect, he]
  rfl

theorem effectOf_undefinedInstrs : ∀ i ∈ undefinedInstrs, effectOf i = .nop :=
  List.map_inj_left.1 rfl

/-! The undefined bytes and the Step (R262). -/

/-- The matrix of R91 holds an undefined instruction of one byte at each byte of R92. -/
theorem shapeOf_undefinedBytes : undefinedBytes.map shapeOf = undefinedInstrs.map .f1 := rfl

theorem exists_shapeOf_undefined {op : Byte} (h : op ∈ undefinedBytes) : ∃ i ∈ undefinedInstrs, .f1 i = shapeOf op := by
  have hmem : shapeOf op ∈ undefinedBytes.map shapeOf := List.mem_map_of_mem h
  rwa [shapeOf_undefinedBytes, List.mem_map] at hmem

/-- When the byte at PC does nothing, the Step is its one-byte fetch. -/
theorem step_of_oneByteNop {s : State} (hrun : s.halted = false) (heffect : fetchedEffect s = .nop)
    (hlength : fetchLength s = 1) :
    step s = .next { s with pc := s.pc + 1#16, cycles := s.cycles + 1 } := by
  rw [step_of_running hrun, heffect, fetched, hlength]
  rfl

theorem step_of_omitted {s : State} (hrun : s.halted = false) (h : omittedAtPc s = true) :
    step s = .next { s with pc := s.pc + 1#16, cycles := s.cycles + 1 } :=
  step_of_oneByteNop hrun (fetchedEffect_of_omitted h) (if_pos h)

theorem step_of_undefined {s : State} (hrun : s.halted = false) (h : s.memRead s.pc ∈ undefinedBytes) :
    step s = .next { s with pc := s.pc + 1#16, cycles := s.cycles + 1 } := by
  cases ho : omittedAtPc s with
  | true => exact step_of_omitted hrun ho
  | false =>
    obtain ⟨i, hi, hshape⟩ := exists_shapeOf_undefined h
    refine step_of_oneByteNop hrun ?_ ?_
    · rw [fetchedEffect_of_kept ho, instrAtPc, ← hshape]
      exact effectOf_undefinedInstrs i hi
    · rw [fetchLength, ho, ← hshape]
      rfl

end Sys2Proof.Machine

namespace Sys2Proof.Proofs

open Sys2Proof.Machine Sys2Proof.Claims

/-- Settles O44: a push writes one cell, and a pull takes the cell above SP. -/
theorem stackInstructionsMoveAAndP : Obligations.StackInstructionsMoveAAndP := by
  intro s
  refine ⟨exists_next_of_effect rfl (push8_writes_one_cell _ s),
    exists_next_of_effect rfl (push8_writes_one_cell _ s), ?pla, ?plp⟩
  case pla =>
    obtain ⟨ha, hzn, hsp⟩ := runEffect_pla_pulls_a s
    refine exists_next_of_effect (e := .pla) rfl ⟨?_, ha ▸ hzn, hsp ▸ pull8_sp_toNat s, rfl⟩
    rw [ha, cell_stack_above, pull8_byte]
  case plp =>
    refine exists_next_of_effect (e := .plp) rfl ⟨?_, pull8_sp_toNat s, rfl⟩
    rw [ofNat_stack_above]
    rfl

/-- Settles O45: the pull takes the cell the push wrote, and bit 5 of P is set already. -/
theorem pullUndoesPush : Obligations.PullUndoesPush := by
  refine ⟨fun s t u h hsp hcell => ?pla, fun s t u hbit h hsp hcell => ?plp⟩
  case pla =>
    obtain rfl := next_eq_effect h
    have hpulled : (pull8 u).1 = s.a := (pull8_byte_of_sp hsp).trans (hcell.trans (memRead_push8_same s.a s))
    obtain ⟨ha, hzn, hsp'⟩ := runEffect_pla_pulls_a u
    exact exists_next_of_effect (e := .pla) rfl ⟨ha.trans hpulled, hsp'.trans (pull8_sp_of_sp hsp), hpulled ▸ hzn⟩
  case plp =>
    obtain rfl := next_eq_effect h
    have hpulled : (pull8 u).1 = s.p ||| phpPushOr s.params :=
      (pull8_byte_of_sp hsp).trans (hcell.trans (memRead_push8_same _ s))
    refine exists_next_of_effect (e := .plp) rfl ⟨pull8_sp_of_sp hsp, ?_⟩
    rw [← pushedStatus_or_unusedMask hbit, ← hpulled]
    rfl

/-- Settles O46: a register write and, for all but TXS, SetZN of the same byte. -/
theorem transfersCopyARegister : Obligations.TransfersCopyARegister := by
  refine fun s => ⟨?tax, ?txa, ?tay, ?tya, ?tsx, exec_eq_effect ..⟩
  case tax => exact exists_next_of_effect (e := .tax) rfl ⟨rfl, znOf_setZN (s.setX s.a) s.a⟩
  case txa => exact exists_next_of_effect (e := .txa) rfl ⟨rfl, znOf_setZN (s.setA s.x) s.x⟩
  case tay => exact exists_next_of_effect (e := .tay) rfl ⟨rfl, znOf_setZN (s.setY s.a) s.a⟩
  case tya => exact exists_next_of_effect (e := .tya) rfl ⟨rfl, znOf_setZN (s.setA s.y) s.y⟩
  case tsx => exact exists_next_of_effect (e := .tsx) rfl ⟨rfl, znOf_setZN (s.setX s.sp) s.sp⟩

/-- Settles O47: each assigns its one flag. -/
theorem flagInstructionsWriteOneBit : Obligations.FlagInstructionsWriteOneBit := fun s =>
  ⟨exec_of_clearFlag .carry rfl s, exec_of_setFlag .carry rfl s, exec_of_clearFlag .interruptDisable rfl s,
    exec_of_setFlag .interruptDisable rfl s, exec_of_clearFlag .overflow rfl s, exec_of_clearFlag .decimal rfl s,
    exec_of_setFlag .decimal rfl s⟩

/-- Settles O48, from the effect of each. -/
theorem nopAndUndefinedDoNothingAndBrkHalts : Obligations.NopAndUndefinedDoNothingAndBrkHalts := fun s =>
  ⟨exec_of_nop rfl s, exec_eq_effect .brk s, fun i hi => exec_of_nop (effectOf_undefinedInstrs i hi) s⟩

/-- Settles O8: the matrix cell of an undefined byte holds a one-byte instruction that does nothing. -/
theorem undefinedOpcodeIsAOneByteNop : Obligations.UndefinedOpcodeIsAOneByteNop := by
  refine ⟨rfl, fun s hrun h => ?_⟩
  obtain hundefined | homitted := h
  · exact step_of_undefined hrun hundefined
  · exact step_of_omitted hrun homitted

end Sys2Proof.Proofs
end

section
/-! PROOFS. The Step, the Run and the halted core (60_exceptions.md R270 to R278, R293). A Step of a running core counts
one, so the bound of a Run is never used up below the ceiling; only a clear of Halted ends the halted state. -/

namespace Sys2Proof.Machine

open Claims

theorem exists_step (s : State) : ∃ t, step s = .next t := by
  cases hs : s.halted with
  | true => exact ⟨s, step_of_halted hs⟩
  | false => exact ⟨_, step_of_running hs⟩

theorem instrAtPc_wellFormed {s : State} (h : omittedAtPc s = false) : (instrAtPc s).wellFormed s.params = true := by
  have hop : s.params.omits (s.memRead s.pc) = false := h
  rw [instrAtPc, wellFormed_instr_shapeOf, hop]
  rfl

theorem step_cycles_of_running {s t : State} (hrun : s.halted = false) (h : step s = .next t) :
    t.cycles = s.cycles + 1 := by
  rw [step_of_running hrun] at h
  obtain rfl := Host.Outcome.next.inj h
  rw [runEffect_cycles, fetched_cycles]

/-! The Run (R272). -/

theorem run_of_stopped {s : State} {ceiling : Nat} (h : s.halted = true ∨ ceiling ≤ s.cycles) :
    run ceiling s = .next s := by
  rw [run]
  cases ceiling - s.cycles with
  | zero => rfl
  | succ bound => rw [runBounded, if_pos (by simpa using h)]

/-- Below the ceiling the bound is not used up: a running Step adds one to Cycles, and so takes one off it. -/
theorem run_of_step {s t : State} {ceiling : Nat} (hrun : s.halted = false) (hlt : s.cycles < ceiling)
    (h : step s = .next t) : run ceiling s = run ceiling t := by
  have hbound : ceiling - s.cycles = ceiling - t.cycles + 1 := by
    rw [step_cycles_of_running hrun h]
    omega
  rw [run, hbound, runBounded, if_neg (by simp [hrun, hlt]), h]
  rfl

/-- A Run ends in a stopped state, and passes the ceiling only when it started past it (R273, R274). -/
theorem run_returns (ceiling : Nat) (s : State) :
    ∃ t, run ceiling s = .next t ∧ (t.halted = true ∨ ceiling ≤ t.cycles) ∧ s.cycles ≤ t.cycles ∧
      (s.cycles ≤ ceiling → t.cycles ≤ ceiling) := by
  induction hn : ceiling - s.cycles generalizing s with
  | zero =>
    have hstop : ceiling ≤ s.cycles := by omega
    exact ⟨s, run_of_stopped (.inr hstop), .inr hstop, le_refl _, id⟩
  | succ n ih =>
    cases hs : s.halted with
    | true => exact ⟨s, run_of_stopped (.inl hs), .inl hs, le_refl _, id⟩
    | false =>
      obtain ⟨u, hu⟩ := exists_step s
      have hcycles := step_cycles_of_running hs hu
      obtain ⟨t, ht, hend, hle, hceiling⟩ := ih u (by omega)
      refine ⟨t, ?_, hend, by omega, fun _ => hceiling (by omega)⟩
      rw [run_of_step hs (by omega) hu, ht]

/-! What a Load and a SetPC answer when they are not refused (70_reset_and_hazards.md R310, R312). -/

theorem hostLoad_next {origin : Int} {buf : List Byte} {s t : State} (h : hostLoad origin buf s = .next t) :
    t = s.loadBytes origin.toNat buf := by
  rw [hostLoad] at h
  split at h
  · exact (Host.Outcome.next.inj h).symm
  · cases h

theorem hostSetPc_next {addr : Int} {s t : State} (h : hostSetPc addr s = .next t) :
    t = s.setPc (BitVec.ofInt 16 addr) := by
  rw [hostSetPc] at h
  split at h
  · exact (Host.Outcome.next.inj h).symm
  · cases h

/-- A Load changes memory alone (70_reset_and_hazards.md R310). -/
theorem loadBytes_frame (s : State) (origin : Nat) (buf : List Byte) :
    s.loadBytes origin buf = { s with mem := (s.loadBytes origin buf).mem } :=
  loadBytes_keeps (P := fun t => t = { s with mem := t.mem })
    (fun _ addr v ht => congrArg (State.memWrite · addr v) ht) buf origin rfl

/-- The host ends the halted state only by a clear of Halted (60_exceptions.md R271). -/
theorem hostAct_of_halted {act : HostAction} {s t : State} (hs : s.halted = true) (h : hostAct act s = .next t) :
    t.halted = true ∨ act = .clearHalted ∨ act = .clearRunState := by
  cases act with
  | load origin buf =>
    obtain rfl := hostLoad_next h
    rw [loadBytes_frame]
    exact .inl hs
  | setPc addr =>
    obtain rfl := hostSetPc_next h
    exact .inl hs
  | clearRunState => exact .inr (.inr rfl)
  | clearHalted => exact .inr (.inl rfl)
  | clearCycles => exact .inl (Host.Outcome.next.inj h ▸ hs)
  | run ceiling => exact .inl (Host.Outcome.next.inj ((run_of_stopped (.inl hs)).symm.trans h) ▸ hs)

end Sys2Proof.Machine

namespace Sys2Proof.Proofs

open Sys2Proof.Machine Sys2Proof.Claims

/-- Settles O5: every instruction answers its effect's state, and a Step is the effect at PC or nothing. -/
theorem everyStepAndInstructionCompletes : Obligations.EveryStepAndInstructionCompletes :=
  ⟨exists_step, fun i s => ⟨_, exec_eq_effect i s⟩⟩

/-- Settles O6, by what each host transaction does to a halted state. -/
theorem stepWhileHaltedChangesNothing : Obligations.StepWhileHaltedChangesNothing :=
  ⟨fun _ hs => ⟨step_of_halted hs, fun _ _ h => hostAct_of_halted hs h⟩, fun _ => ⟨rfl, rfl⟩⟩

/-- Settles O7, by whether the byte at PC is in `OPSET`: the decoder gives the instruction there or names the byte. -/
theorem stepRunsTheDecodedInstruction : Obligations.StepRunsTheDecodedInstruction := by
  intro s hrun
  cases ho : omittedAtPc s with
  | true =>
    rw [decode_bytesAtPc_of_omitted ho]
    refine ⟨nofun, fun op h => ?_, nofun, exists_step s⟩
    cases h
    exact ⟨rfl, step_of_omitted hrun ho⟩
  | false =>
    have hstep := step_of_decode hrun (decode_bytesAtPc_of_kept ho)
    rw [decode_bytesAtPc_of_kept ho]
    refine ⟨fun i rest h => ?_, nofun, nofun, exists_step s⟩
    cases h
    exact ⟨instrAtPc_wellFormed ho, hstep⟩

/-- Settles O58, from the bound a Step takes one off. -/
theorem runIsTheGuardedLoopOfStep : Obligations.RunIsTheGuardedLoopOfStep := by
  refine fun s ceiling => ⟨run_of_stopped, fun hrun hlt => ?_⟩
  obtain ⟨t, ht⟩ := exists_step s
  exact ⟨t, ht, run_of_step hrun hlt ht⟩

/-- Settles O59, by induction on how far Cycles is from the ceiling. -/
theorem everyRunReturnsAtHaltOrCeiling : Obligations.EveryRunReturnsAtHaltOrCeiling := fun s ceiling =>
  run_returns ceiling s

end Sys2Proof.Proofs
end

section
/-! PROOFS. What the host asks for (70_reset_and_hazards.md R310 to R316). -/

namespace Sys2Proof.Machine

open Claims

/-- An address as the host's integers name it. -/
theorem ofInt_toNat (addr : Word) : BitVec.ofInt 16 (addr.toNat : Int) = addr := by
  rw [BitVec.ofInt_natCast, BitVec.ofNat_toNat, BitVec.setWidth_eq]

theorem toNat_inRange (addr : Word) : (0 : Int) ≤ addr.toNat ∧ (addr.toNat : Int) ≤ 65535 := by
  have := addr.isLt
  omega

/-- A Load leaves the cells outside its range alone. -/
theorem memRead_loadBytes_outside {addr : Word} (buf : List Byte) (s : State) {origin : Nat}
    (hfits : origin + buf.length ≤ 65536) (h : addr.toNat < origin ∨ origin + buf.length ≤ addr.toNat) :
    (s.loadBytes origin buf).memRead addr = s.memRead addr := by
  induction buf generalizing s origin with
  | nil => rfl
  | cons b rest ih =>
    rw [List.length_cons] at hfits h
    have hne : addr ≠ BitVec.ofNat 16 origin := by
      rintro rfl
      rw [BitVec.toNat_ofNat] at h
      omega
    rw [State.loadBytes, ih _ (by omega) (by omega), State.memRead_memWrite_of_ne hne]

/-- A Load puts the buffer's bytes at consecutive addresses from its origin. -/
theorem memRead_loadBytes_inside (buf : List Byte) (s : State) {origin k : Nat}
    (hfits : origin + buf.length ≤ 65536) (hk : k < buf.length) :
    (s.loadBytes origin buf).memRead (BitVec.ofNat 16 (origin + k)) = buf[k] := by
  induction buf generalizing s origin k with
  | nil => exact absurd hk (Nat.not_lt_zero k)
  | cons b rest ih =>
    rw [List.length_cons] at hfits hk
    rw [State.loadBytes]
    cases k with
    | zero =>
      have hbelow : (BitVec.ofNat 16 origin).toNat < origin + 1 := by
        rw [BitVec.toNat_ofNat]
        omega
      rw [Nat.add_zero origin, memRead_loadBytes_outside rest _ (by omega) (.inl hbelow), State.memRead_memWrite_same]
      rfl
    | succ k =>
      have hnext : origin + (k + 1) = origin + 1 + k := by omega
      rw [hnext]
      exact ih _ (by omega) (by omega)

end Sys2Proof.Machine

namespace Sys2Proof.Proofs

open Sys2Proof.Machine Sys2Proof.Claims

/-- Settles O55, by induction on the buffer. -/
theorem loadCopiesTheBuffer : Obligations.LoadCopiesTheBuffer := by
  intro s origin buf horigin hfits
  exact ⟨s.loadBytes origin buf, if_pos (by omega), fun k hk => memRead_loadBytes_inside buf s hfits hk,
    fun addr h => memRead_loadBytes_outside buf s hfits h, loadBytes_frame s origin buf⟩

/-- Settles O56: each request tests its range first. -/
theorem requestsOutsideMemoryAreRefused : Obligations.RequestsOutsideMemoryAreRefused := fun _ _ _ =>
  ⟨fun h => if_neg (by omega), fun h => if_neg (by omega)⟩

/-- Settles O57: an address is an integer in range, and names itself. -/
theorem hostAccessorsDoWhatTheyName : Obligations.HostAccessorsDoWhatTheyName := by
  refine fun s => ⟨fun addr => ⟨?setPc, rfl⟩, rfl, fun addr => ?readByte, fun n h => if_neg (by omega), rfl⟩
  case setPc =>
    rw [hostSetPc, if_pos (toNat_inRange addr), ofInt_toNat]
    rfl
  case readByte => rw [readByte, if_pos (toNat_inRange addr), ofInt_toNat]

end Sys2Proof.Proofs
end
